-- ==== Sys2Proof/Word.lean ====
section
/-! DEFINITION. The plain data every other file is built from: bytes of the station link, character texts,
timers, and the fourfold collections the part is made of (four faces; up to four lines on each). -/

namespace Sys2Proof

/-- A byte on the station link (R183: 8 data bits). -/
abbrev Byte := BitVec 8

/-- A text is a string of character codes (00_scope.md, Conventions, Text). -/
abbrev Text := List Nat

/-- A timer of the part: `none` while it is stopped, `some d` while it runs, where `d` is the duration it was given at
its latest start. The unit is that of the rule that starts it and stands at each field. A running timer keeps the
duration it was given when a setting changes. How much of it has passed is no state of the model: an expiry is a
command of its own (notes/assumptions/2.md). -/
abbrev Timer := Option Nat

/-- The numbers 0 to 3: a face (R118), or a line of a face (R119). -/
inductive Four where
  | n0 | n1 | n2 | n3
deriving DecidableEq, Repr

abbrev FaceId := Four
abbrev LineId := Four

def Four.toNat : Four → Nat
  | .n0 => 0
  | .n1 => 1
  | .n2 => 2
  | .n3 => 3

/-- The face or line a number names, if it names one. -/
def Four.ofNat? : Nat → Option Four
  | 0 => some .n0
  | 1 => some .n1
  | 2 => some .n2
  | 3 => some .n3
  | _ => none

/-- The four numbers in ascending order. -/
def Four.all : List Four := [.n0, .n1, .n2, .n3]

/-- Four like things, numbered 0 to 3. -/
structure Quad (α : Type) where
  q0 : α
  q1 : α
  q2 : α
  q3 : α
deriving DecidableEq, Repr

def Quad.get {α : Type} (q : Quad α) : Four → α
  | .n0 => q.q0
  | .n1 => q.q1
  | .n2 => q.q2
  | .n3 => q.q3

def Quad.set {α : Type} (q : Quad α) (i : Four) (a : α) : Quad α :=
  match i with
  | .n0 => { q with q0 := a }
  | .n1 => { q with q1 := a }
  | .n2 => { q with q2 := a }
  | .n3 => { q with q3 := a }

/-- The same thing four times. -/
def Quad.const {α : Type} (a : α) : Quad α := ⟨a, a, a, a⟩

def Quad.map {α β : Type} (g : α → β) (q : Quad α) : Quad β := ⟨g q.q0, g q.q1, g q.q2, g q.q3⟩

/-- `map` with the number of each thing. -/
def Quad.mapIdx {α β : Type} (g : Four → α → β) (q : Quad α) : Quad β :=
  ⟨g .n0 q.q0, g .n1 q.q1, g .n2 q.q2, g .n3 q.q3⟩

def Quad.ofFn {α : Type} (g : Four → α) : Quad α := ⟨g .n0, g .n1, g .n2, g .n3⟩

def Quad.toList {α : Type} (q : Quad α) : List α := [q.q0, q.q1, q.q2, q.q3]

/-- One of the two buffers of a panel (00_scope.md, Terms: Buffer). -/
inductive Buf where
  | b0 | b1
deriving DecidableEq, Repr

/-- The other buffer: hidden while this one is shown. -/
def Buf.other : Buf → Buf
  | .b0 => .b1
  | .b1 => .b0

/-- One of the two approach inputs (R159). -/
inductive InputId where
  | a | b
deriving DecidableEq, Repr

/-- Two like things, one for each approach input. -/
structure Pair (α : Type) where
  a : α
  b : α
deriving DecidableEq, Repr

def Pair.get {α : Type} (p : Pair α) : InputId → α
  | .a => p.a
  | .b => p.b

def Pair.set {α : Type} (p : Pair α) (i : InputId) (x : α) : Pair α :=
  match i with
  | .a => { p with a := x }
  | .b => { p with b := x }

/-- Three character codes: a place code (R47) or a strike key (R60). -/
structure Code3 where
  c0 : Nat
  c1 : Nat
  c2 : Nat
deriving DecidableEq, Repr

end Sys2Proof
end

