-- ==== Sys2Proof/Config.lean ====
section
/-! DEFINITION. The principal numbers of the part (00_scope.md, Principal numbers) and the values the manual leaves
open: constants without a body, of which nothing can be proved. -/

namespace Sys2Proof.Config

/-- Service slots, numbered 0 to 23 (R4). -/
def slotCount : Nat := 24

/-- Cells of the pattern pool (R28). -/
def poolCells : Nat := 640

/-- Entries of one pattern (R29). -/
def patternLimit : Nat := 48

/-- Entries one CALLS request carries (R32), and entries one LIST reply returns (R45). -/
def callsLimit : Nat := 24

/-- Open load contexts (R31). -/
def loadLimit : Nat := 4

/-- Place entries (R47). -/
def placeLimit : Nat := 400

/-- Standing strikes (R60). -/
def strikeLimit : Nat := 8

/-- The largest PMC (R9). -/
def pmcMax : Nat := 16777215

/-- Minutes after its scheduled time that a DELAYED service stays listed (R15). -/
def delayedHold : Nat := 240

/-- The largest value of an error counter (R191). -/
def counterMax : Nat := 65535

/-- The longest frame body (R184). -/
def bodyLimit : Nat := 240

/-- The brightness floor of a level-3 warning (R176). -/
def levelFloor : Nat := 48

/-- FREE VALUE (notes/assumptions/3.md). Whether the built-in glyph of a code has the pixel of a row (0 to 15, top
first) and a column lit. R57 fixes the images of the 95 built-in glyphs in the part and states only that the space
has no lit pixel. -/
opaque builtinPixel : (code row col : Nat) → Bool

/-- FREE VALUE (notes/assumptions/4.md). Where the manual does not say which entry of a refused PLACE is reported as
the failing one (R49), the `n`-th such refusal reports one of the candidates by this choice. -/
opaque placeChoice : (n : Nat) → Nat

end Sys2Proof.Config
end

