-- ==== Sys2Proof/Syntax.lean ====
section
/-! DEFINITION. The commands: one constructor of `Instr` for each row of spec/opcode_table.json. A command is a request
that a good frame carries (R187, R198), an event of the station line, a timer expiry, a panel answer, a change of an
input pin, or one of the part's own turns. Operands are the values the line, the panel or the pin presents, before any
check: a field of a request body is the number its bytes spell. -/

namespace Sys2Proof

/-- A time of day as a body carries it: two bytes (R198, Time). -/
structure RawTime where
  hours : Nat
  minutes : Nat
deriving DecidableEq, Repr

/-- The body of a request: its fields, or a body that does not read as the fields of its row. The latter are a length
that disagrees with the kind, its counts or its presence flags (R189), and a code that should tell two rows of one
kind apart and names neither (R167, R178, R156, R158, R197; DEDUCED, notes/assumptions/9.md). -/
inductive Body (α : Type) where
  | fields (a : α)
  | malformed
deriving DecidableEq, Repr

structure TimeBody where
  hours : Nat
  minutes : Nat
  seconds : Nat
deriving DecidableEq, Repr

/-- What a POST carries after destination1: the body may end after any of these fields (R17). -/
inductive PostTail where
  | afterDest1
  | afterCoaches1 (coaches1 : Nat)
  | afterDest2 (coaches1 dest2 : Nat)
  | afterCoaches2 (coaches1 dest2 coaches2 : Nat)
  | afterReason (coaches1 dest2 coaches2 : Nat) (reason : Text)
deriving DecidableEq, Repr

structure PostBody where
  handle : Nat
  sched : RawTime
  state : Nat
  expected : RawTime
  portions : Nat
  dest1 : Nat
  tail : PostTail
deriving DecidableEq, Repr

structure AmendBody where
  handle : Nat
  state : Nat
  expected : RawTime
  action : Nat
  reason : Text
deriving DecidableEq, Repr

/-- One calling entry of a CALLS request (R32). -/
structure RawEntry where
  key : Nat
  place : Nat
  time : RawTime
  mask : Nat
  listed : Bool
deriving DecidableEq, Repr

/-- A CALLS body; its ABANDON flag is the choice between the rows CALLS and CALLS_ABANDON. -/
structure CallsBody where
  handle : Nat
  fresh : Bool
  close : Bool
  entries : List RawEntry
deriving DecidableEq, Repr

structure ReadBody where
  selector : Nat
  value : Nat
deriving DecidableEq, Repr

structure ListBody where
  handle : Nat
  source : Nat
  start : Nat
deriving DecidableEq, Repr

/-- One place entry of a PLACE request (R49). A short name of length 0 means absent. -/
structure RawPlace where
  id : Nat
  code : Code3
  full : Text
  short : Text
deriving DecidableEq, Repr

/-- A PLACE body: its entries, or a body whose length does not agree with them, with the entries it carries in full before
it goes wrong: R49 reports the position of the one at fault. -/
inductive PlaceBody where
  | fields (entries : List RawPlace)
  | broken (entries : List RawPlace)
deriving DecidableEq, Repr

/-- Whether the length of a PLACE body agrees with its entries. -/
def PlaceBody.agrees : PlaceBody → Bool
  | .fields _ => true
  | .broken _ => false

structure GlyphBody where
  code : Nat
  advance : Nat
  rows : List Nat
deriving DecidableEq, Repr

/-- A FACE body: a field is present when its presence flag is set (R121). -/
structure FaceBody where
  face : Nat
  panelId : Option Nat
  roles : Option (Quad Nat)
  speed : Option Nat
  depth : Option Nat
  callTimes : Option Nat
  autoWake : Option Nat
deriving DecidableEq, Repr

/-- A DIM body; its mode is the choice between the rows DIM_MANUAL and DIM_AUTO. -/
structure DimBody where
  mask : Nat
  level : Nat
deriving DecidableEq, Repr

/-- One point of a CURVE body (R179). -/
structure RawPoint where
  ambient : Nat
  level : Nat
deriving DecidableEq, Repr

/-- A SHOW body; its source is the choice among the three SHOW rows. -/
structure ShowBody where
  mask : Nat
  text : Text
deriving DecidableEq, Repr

structure WarnBody where
  mask : Nat
  duration : Nat
  text : Text
deriving DecidableEq, Repr

structure ApproachBody where
  input : Nat
  sensitivity : Nat
  mask : Nat
  hold : Nat
  duration : Nat
  text : Text
deriving DecidableEq, Repr

/-- A TIMING body: a setting is present when its presence bit is set (R196). -/
structure TimingBody where
  followDwell : Option Nat
  clearDown : Option Nat
  silenceLimit : Option Nat
  wakeTimeout : Option Nat
  rampStep : Option Nat
  passGap : Option Nat
  loadIdle : Option Nat
  pageDwell : Option Nat
deriving DecidableEq, Repr

/-- The levels of the input pins (00_scope.md, External connections): `address` is the number the five address straps
give, `baud` the number the two baud straps give (second strap, then first); an input level is `true` for HIGH. -/
structure Pins where
  address : Nat
  baud : Nat
  approach : Pair Bool
  sense : Quad Bool
deriving DecidableEq, Repr

/-- The commands. In a request `addr` is the number that bits 0 to 4 of the frame's address byte give, its bit 7 being
clear: 0 for a broadcast. -/
inductive Instr where
  | powerOnReset (pins : Pins)
  | time (addr : Nat) (body : Body TimeBody)
  | post (addr : Nat) (body : Body PostBody)
  | amend (addr : Nat) (body : Body AmendBody)
  | calls (addr : Nat) (body : Body CallsBody)
  | callsAbandon (addr : Nat) (body : Body CallsBody)
  | drop (addr : Nat) (handle : Body Nat)
  | read (addr : Nat) (body : Body ReadBody)
  | list (addr : Nat) (body : Body ListBody)
  | place (addr : Nat) (body : PlaceBody)
  | unplace (addr : Nat) (id : Body Nat)
  | glyph (addr : Nat) (body : Body GlyphBody)
  | strike (addr : Nat) (key : Body Code3)
  | restore (addr : Nat) (id : Body Nat)
  | scanVisit
  | face (addr : Nat) (body : Body FaceBody)
  | powerOn (addr : Nat) (face : Body Nat)
  | powerOff (addr : Nat) (face : Body Nat)
  | dimManual (addr : Nat) (body : Body DimBody)
  | dimAuto (addr : Nat) (body : Body DimBody)
  | curve (addr : Nat) (points : Body (List RawPoint))
  | showNotice (addr : Nat) (body : Body ShowBody)
  | showDisruption (addr : Nat) (body : Body ShowBody)
  | showFallback (addr : Nat) (body : Body ShowBody)
  | clearNotice (addr : Nat) (mask : Body Nat)
  | clearDisruption (addr : Nat) (mask : Body Nat)
  | clearWarning (addr : Nat) (mask : Body Nat)
  | warn (addr : Nat) (body : Body WarnBody)
  | approach (addr : Nat) (body : Body ApproachBody)
  | timing (addr : Nat) (body : Body TimingBody)
  | collect (addr : Nat) (body : Body Unit)
  | status (addr : Nat) (clear : Body Bool)
  | restartAll (addr : Nat) (body : Body Unit)
  | restartContent (addr : Nat) (body : Body Unit)
  | unknownKind (addr kind : Nat)
  | frameCheckError
  | frameLengthError
  /-- A gap of more than 2 ms inside a frame: `afterAddress` says whether its address byte, naming the part, had come. -/
  | frameAbort (afterAddress : Bool)
  | overrun
  /-- The end of a frame that does not concern the part: `broken` when it broke off with a gap. -/
  | foreignFrame (broken : Bool)
  | quietTime
  | replyDelayExpiry
  | replySent
  | silenceExpiry
  | clockSecond
  | loadIdleTimeout (slot : Nat)
  | followDwellExpiry (face : FaceId)
  | stepTimerExpiry (face : FaceId) (line : LineId)
  | gapTimerExpiry (face : FaceId) (line : LineId)
  | renderTurn
  | stored (panel : Nat) (buffer : Buf) (line : Nat)
  | flipped (panel : Nat) (buffer : Buf)
  | renderAnswerTimeout
  | transmitEnd
  | senseRise (face : FaceId)
  | senseFall (face : FaceId)
  | settleTimerExpiry (face : FaceId)
  | ready (panel width lines : Nat)
  | wakeTimerExpiry (face : FaceId)
  | pollTimerExpiry (face : FaceId)
  | panelState (panel ambient : Nat) (overcurrent overtemp : Bool) (shown : Buf)
  | panelAnswerLimit (face : FaceId)
  | retireDelayExpiry (face : FaceId)
  | shutdownTailEnd (face : FaceId)
  | rampTimerExpiry (face : FaceId)
  | pageTimerExpiry (face : FaceId)
  | warningTimerExpiry (face : FaceId)
  | approachPinChange (input : InputId) (level : Bool)
  | debounceExpiry (input : InputId)
  | holdTimerExpiry (input : InputId)
  | durationTimerExpiry (input : InputId)
deriving DecidableEq, Repr

end Sys2Proof
end

