-- ==== Sys2Proof/WellFormed.lean ====
section
/-! DEFINITION. Which commands a line, a panel or a pin can present: every field fits the bytes that carry it (R184,
R198), and a body fits a frame. No check of the part itself is anticipated here: a field out of its range is well formed. -/

namespace Sys2Proof

/-- A number of one byte. -/
def isByte (n : Nat) : Bool := decide (n < 256)

/-- A number of two bytes. -/
def isWord (n : Nat) : Bool := decide (n < 65536)

/-- A text with its length byte (R198). -/
def isText (t : Text) : Bool := decide (t.length < 256) && t.all isByte

/-- A place code or strike key: three bytes. -/
def isCode3 (c : Code3) : Bool := isByte c.c0 && isByte c.c1 && isByte c.c2

def isRawTime (t : RawTime) : Bool := isByte t.hours && isByte t.minutes

/-- A controller address of five bits (R184). -/
def isAddress (a : Nat) : Bool := decide (a < 32)

/-- A request command: its address, and the check of its fields; a malformed body needs none. -/
def isRequest {α : Type} (addr : Nat) (body : Body α) (ok : α → Bool) : Bool :=
  isAddress addr &&
    match body with
    | .fields a => ok a
    | .malformed => true

def isPostTail : PostTail → Bool
  | .afterDest1 => true
  | .afterCoaches1 c1 => isByte c1
  | .afterDest2 c1 d2 => isByte c1 && isWord d2
  | .afterCoaches2 c1 d2 c2 => isByte c1 && isWord d2 && isByte c2
  | .afterReason c1 d2 c2 r =>
    isByte c1 && isWord d2 && isByte c2 && isText r && decide (r.length ≤ Config.bodyLimit - 15)

def isPostBody (b : PostBody) : Bool :=
  isWord b.handle && isRawTime b.sched && isByte b.state && isRawTime b.expected && isByte b.portions &&
    isWord b.dest1 && isPostTail b.tail

def isAmendBody (b : AmendBody) : Bool :=
  isWord b.handle && isByte b.state && isRawTime b.expected && isByte b.action && isText b.reason &&
    decide (b.reason.length ≤ Config.bodyLimit - 7)

def isRawEntry (e : RawEntry) : Bool :=
  isByte e.key && isWord e.place && isRawTime e.time && isByte e.mask

/-- An entry has 7 bytes, so at most 33 fit a body beside the handle, the flags and the count. -/
def isCallsBody (b : CallsBody) : Bool :=
  isWord b.handle && b.entries.all isRawEntry && decide (4 + 7 * b.entries.length ≤ Config.bodyLimit)

def isRawPlace (p : RawPlace) : Bool :=
  isWord p.id && isCode3 p.code && isText p.full && isText p.short

/-- The bytes of a place entry: id, code, two length bytes and two names. -/
def rawPlaceSize (p : RawPlace) : Nat := 7 + p.full.length + p.short.length

def isPlaces (ps : List RawPlace) : Bool :=
  ps.all isRawPlace && decide (1 + (ps.map rawPlaceSize).sum ≤ Config.bodyLimit)

def isPlaceBody : PlaceBody → Bool
  | .fields ps => isPlaces ps
  | .broken ps => isPlaces ps

def isGlyphBody (b : GlyphBody) : Bool :=
  isByte b.code && isByte b.advance && b.rows.all isWord && decide (b.rows.length = 16)

def isOptByte : Option Nat → Bool
  | none => true
  | some n => isByte n

def isOptWord : Option Nat → Bool
  | none => true
  | some n => isWord n

def isFaceBody (b : FaceBody) : Bool :=
  isByte b.face && isOptByte b.panelId &&
    (match b.roles with
      | none => true
      | some r => isByte r.q0 && isByte r.q1 && isByte r.q2 && isByte r.q3) &&
    isOptByte b.speed && isOptByte b.depth && isOptByte b.callTimes && isOptByte b.autoWake

def isDimBody (b : DimBody) : Bool := isByte b.mask && isByte b.level

def isPoints (ps : List RawPoint) : Bool :=
  ps.all (fun p => isWord p.ambient && isByte p.level) && decide (ps.length = 8)

def isShowBody (b : ShowBody) : Bool :=
  isByte b.mask && isText b.text && decide (b.text.length ≤ Config.bodyLimit - 3)

def isWarnBody (b : WarnBody) : Bool :=
  isByte b.mask && isWord b.duration && isText b.text && decide (b.text.length ≤ Config.bodyLimit - 4)

def isApproachBody (b : ApproachBody) : Bool :=
  isByte b.input && isByte b.sensitivity && isByte b.mask && isByte b.hold && isByte b.duration && isText b.text &&
    decide (b.text.length ≤ Config.bodyLimit - 6)

def isTimingBody (b : TimingBody) : Bool :=
  isOptByte b.followDwell && isOptByte b.clearDown && isOptWord b.silenceLimit && isOptWord b.wakeTimeout &&
    isOptWord b.rampStep && isOptWord b.passGap && isOptByte b.loadIdle && isOptByte b.pageDwell

/-- The kind codes of R198 are 0x11 to 0x28. -/
def isKind (k : Nat) : Bool := decide (0x11 ≤ k) && decide (k ≤ 0x28)

/-- Well-formed commands. -/
def wellFormed : Instr → Bool
  | .powerOnReset pins => isAddress pins.address && decide (pins.baud < 4)
  | .time a b => isRequest a b fun t => isByte t.hours && isByte t.minutes && isByte t.seconds
  | .post a b => isRequest a b isPostBody
  | .amend a b => isRequest a b isAmendBody
  | .calls a b => isRequest a b isCallsBody
  | .callsAbandon a b => isRequest a b isCallsBody
  | .drop a h => isRequest a h isWord
  | .read a b => isRequest a b fun r => isByte r.selector && isWord r.value
  | .list a b => isRequest a b fun r => isWord r.handle && isByte r.source && isByte r.start
  | .place a b => isAddress a && isPlaceBody b
  | .unplace a i => isRequest a i isWord
  | .glyph a b => isRequest a b isGlyphBody
  | .strike a k => isRequest a k isCode3
  | .restore a i => isRequest a i isByte
  | .scanVisit => true
  | .face a b => isRequest a b isFaceBody
  | .powerOn a f => isRequest a f isByte
  | .powerOff a f => isRequest a f isByte
  | .dimManual a b => isRequest a b isDimBody
  | .dimAuto a b => isRequest a b isDimBody
  | .curve a ps => isRequest a ps isPoints
  | .showNotice a b => isRequest a b isShowBody
  | .showDisruption a b => isRequest a b isShowBody
  | .showFallback a b => isRequest a b isShowBody
  | .clearNotice a m => isRequest a m isByte
  | .clearDisruption a m => isRequest a m isByte
  | .clearWarning a m => isRequest a m isByte
  | .warn a b => isRequest a b isWarnBody
  | .approach a b => isRequest a b isApproachBody
  | .timing a b => isRequest a b isTimingBody
  | .collect a b => isRequest a b fun _ => true
  | .status a b => isRequest a b fun _ => true
  | .restartAll a b => isRequest a b fun _ => true
  | .restartContent a b => isRequest a b fun _ => true
  | .unknownKind a k => isAddress a && isByte k && !isKind k
  | .frameCheckError => true
  | .frameLengthError => true
  | .frameAbort _ => true
  | .overrun => true
  | .foreignFrame _ => true
  | .quietTime => true
  | .replyDelayExpiry => true
  | .replySent => true
  | .silenceExpiry => true
  | .clockSecond => true
  | .loadIdleTimeout slot => decide (slot < Config.slotCount)
  | .followDwellExpiry _ => true
  | .stepTimerExpiry _ _ => true
  | .gapTimerExpiry _ _ => true
  | .renderTurn => true
  | .stored panel _ _ => decide (panel < 16)
  | .flipped panel _ => decide (panel < 16)
  | .renderAnswerTimeout => true
  | .transmitEnd => true
  | .senseRise _ => true
  | .senseFall _ => true
  | .settleTimerExpiry _ => true
  | .ready panel _ _ => decide (panel < 16)
  | .wakeTimerExpiry _ => true
  | .pollTimerExpiry _ => true
  | .panelState panel ambient _ _ _ => decide (panel < 16) && decide (ambient ≤ 1023)
  | .panelAnswerLimit _ => true
  | .retireDelayExpiry _ => true
  | .shutdownTailEnd _ => true
  | .rampTimerExpiry _ => true
  | .pageTimerExpiry _ => true
  | .warningTimerExpiry _ => true
  | .approachPinChange _ _ => true
  | .debounceExpiry _ => true
  | .holdTimerExpiry _ => true
  | .durationTimerExpiry _ => true

end Sys2Proof
end

