-- ==== Sys2Proof/Decode.lean ====
section
/-! DEFINITION. Station link frames (R184 to R187, R198): the check value, reading the command that the bytes on the line
spell, and the frame of a request. `decodeTableWord` stands at the end: the opcode table gives its rows no bits. -/

namespace Sys2Proof

/-! ### The check value (R184) -/

/-- One bit into the check register. -/
def crcBit (r : BitVec 16) (bit : Bool) : BitVec 16 :=
  if r.msb != bit then (r <<< 1) ^^^ 0x1021#16 else r <<< 1

/-- One byte into the check register, most significant bit first. -/
def crcByte (r : BitVec 16) (b : Byte) : BitVec 16 :=
  [7, 6, 5, 4, 3, 2, 1, 0].foldl (fun r i => crcBit r (b.getLsbD i)) r

/-- The check over a run of bytes. -/
def crc16 (bytes : List Byte) : BitVec 16 := bytes.foldl crcByte 0xFFFF#16

/-! ### Numbers and texts in bytes (R184, R198) -/

def u8 (n : Nat) : List Byte := [BitVec.ofNat 8 n]

/-- Two bytes, high byte first. -/
def u16 (n : Nat) : List Byte := [BitVec.ofNat 8 (n / 256), BitVec.ofNat 8 n]

/-- Three bytes, high byte first. -/
def u24 (n : Nat) : List Byte := [BitVec.ofNat 8 (n / 65536), BitVec.ofNat 8 (n / 256), BitVec.ofNat 8 n]

def word (hi lo : Byte) : Nat := hi.toNat * 256 + lo.toNat

def textBytes (t : Text) : List Byte := u8 t.length ++ t.map (BitVec.ofNat 8)

def rawTimeBytes (t : RawTime) : List Byte := u8 t.hours ++ u8 t.minutes

def code3Bytes (c : Code3) : List Byte := u8 c.c0 ++ u8 c.c1 ++ u8 c.c2

/-- A text and the bytes after it, when its length byte agrees with them. -/
def takeText : List Byte → Option (Text × List Byte)
  | [] => none
  | n :: rest =>
    if n.toNat ≤ rest.length then some ((rest.take n.toNat).map BitVec.toNat, rest.drop n.toNat) else none

/-- A text that fills the rest of a body. -/
def wholeText (bs : List Byte) : Option Text :=
  match takeText bs with
  | some (t, []) => some t
  | _ => none

/-- Bit `i` of a byte. -/
def bit (i : Nat) (b : Byte) : Bool := b.getLsbD i

def bitByte (i : Nat) (on : Bool) : Nat := if on then 2 ^ i else 0

/-! ### Kind codes (R198) -/

def Kind.time : Nat := 0x11
def Kind.post : Nat := 0x12
def Kind.amend : Nat := 0x13
def Kind.calls : Nat := 0x14
def Kind.drop : Nat := 0x15
def Kind.read : Nat := 0x16
def Kind.list : Nat := 0x17
def Kind.curve : Nat := 0x18
def Kind.place : Nat := 0x19
def Kind.unplace : Nat := 0x1A
def Kind.glyph : Nat := 0x1B
def Kind.strike : Nat := 0x1C
def Kind.restore : Nat := 0x1D
def Kind.face : Nat := 0x1E
def Kind.power : Nat := 0x1F
def Kind.dim : Nat := 0x20
def Kind.show : Nat := 0x21
def Kind.clear : Nat := 0x22
def Kind.warn : Nat := 0x23
def Kind.approach : Nat := 0x24
def Kind.timing : Nat := 0x25
def Kind.collect : Nat := 0x26
def Kind.status : Nat := 0x27
def Kind.restart : Nat := 0x28

/-! ### Bodies read from bytes (R198) -/

/-- A body that was read, or a malformed one (R189). -/
def Body.ofOption {α : Type} : Option α → Body α
  | some a => .fields a
  | none => .malformed

def readTime : List Byte → Option TimeBody
  | [h, m, s] => some ⟨h.toNat, m.toNat, s.toNat⟩
  | _ => none

/-- A POST body ends after destination1, coaches1, destination2, coaches2 or the reason (R17). -/
def readPostTail : List Byte → Option PostTail
  | [] => some .afterDest1
  | [c1] => some (.afterCoaches1 c1.toNat)
  | [c1, dh, dl] => some (.afterDest2 c1.toNat (word dh dl))
  | [c1, dh, dl, c2] => some (.afterCoaches2 c1.toNat (word dh dl) c2.toNat)
  | c1 :: dh :: dl :: c2 :: rest =>
    (wholeText rest).map fun t => .afterReason c1.toNat (word dh dl) c2.toNat t
  | _ => none

def readPost : List Byte → Option PostBody
  | hh :: hl :: sh :: sm :: st :: eh :: em :: pc :: dh :: dl :: rest =>
    (readPostTail rest).map fun tail =>
      { handle := word hh hl
        sched := ⟨sh.toNat, sm.toNat⟩
        state := st.toNat
        expected := ⟨eh.toNat, em.toNat⟩
        portions := pc.toNat
        dest1 := word dh dl
        tail := tail }
  | _ => none

def readAmend : List Byte → Option AmendBody
  | hh :: hl :: st :: eh :: em :: act :: rest =>
    (wholeText rest).map fun t =>
      { handle := word hh hl, state := st.toNat, expected := ⟨eh.toNat, em.toNat⟩, action := act.toNat, reason := t }
  | _ => none

/-- The entries of a CALLS body, as many as its count says and no more bytes. -/
def readEntries : Nat → List Byte → Option (List RawEntry)
  | 0, [] => some []
  | n + 1, k :: ph :: pl :: th :: tm :: m :: fl :: rest =>
    (readEntries n rest).map fun es =>
      { key := k.toNat, place := word ph pl, time := ⟨th.toNat, tm.toNat⟩, mask := m.toNat, listed := bit 0 fl } :: es
  | _, _ => none

/-- A CALLS body, with its ABANDON flag. -/
def readCalls : List Byte → Option (Bool × CallsBody)
  | hh :: hl :: fl :: n :: rest =>
    (readEntries n.toNat rest).map fun es =>
      (bit 0 fl, { handle := word hh hl, fresh := bit 1 fl, close := bit 2 fl, entries := es })
  | _ => none

def readWord : List Byte → Option Nat
  | [h, l] => some (word h l)
  | _ => none

def readByte : List Byte → Option Nat
  | [b] => some b.toNat
  | _ => none

def readRead : List Byte → Option ReadBody
  | [s, h, l] => some ⟨s.toNat, word h l⟩
  | _ => none

def readList : List Byte → Option ListBody
  | [h, l, s, i] => some ⟨word h l, s.toNat, i.toNat⟩
  | _ => none

/-- One place entry, and the bytes after it. -/
def takePlace : List Byte → Option (RawPlace × List Byte)
  | ih :: il :: c0 :: c1 :: c2 :: rest => do
    let (full, r₁) ← takeText rest
    let (short, r₂) ← takeText r₁
    some ({ id := word ih il, code := ⟨c0.toNat, c1.toNat, c2.toNat⟩, full := full, short := short }, r₂)
  | _ => none

/-- The place entries that bytes carry in full, up to a count, and whether these are that many and no byte is left over. -/
def readPlaces : Nat → List Byte → List RawPlace × Bool
  | 0, bs => ([], bs.isEmpty)
  | n + 1, bs =>
    match takePlace bs with
    | some (p, rest) => (p :: (readPlaces n rest).1, (readPlaces n rest).2)
    | none => ([], false)

def readPlace : List Byte → PlaceBody
  | [] => .broken []
  | n :: rest =>
    if (readPlaces n.toNat rest).2 then .fields (readPlaces n.toNat rest).1 else .broken (readPlaces n.toNat rest).1

/-- `n` numbers of two bytes. -/
def readWords : Nat → List Byte → Option (List Nat)
  | 0, [] => some []
  | n + 1, h :: l :: rest => (readWords n rest).map fun ws => word h l :: ws
  | _, _ => none

def readGlyph : List Byte → Option GlyphBody
  | c :: a :: rest => (readWords 16 rest).map fun rows => ⟨c.toNat, a.toNat, rows⟩
  | _ => none

def readKey : List Byte → Option Code3
  | [a, b, c] => some ⟨a.toNat, b.toNat, c.toNat⟩
  | _ => none

/-- A field of one byte that is there when its presence flag is set. -/
def takeOptByte (present : Bool) : List Byte → Option (Option Nat × List Byte)
  | bs =>
    if present then
      match bs with
      | b :: rest => some (some b.toNat, rest)
      | [] => none
    else some (none, bs)

/-- A field of two bytes that is there when its presence flag is set. -/
def takeOptWord (present : Bool) : List Byte → Option (Option Nat × List Byte)
  | bs =>
    if present then
      match bs with
      | h :: l :: rest => some (some (word h l), rest)
      | _ => none
    else some (none, bs)

/-- The role map of a FACE body when its presence flag is set. -/
def takeOptRoles (present : Bool) : List Byte → Option (Option (Quad Nat) × List Byte)
  | bs =>
    if present then
      match bs with
      | a :: b :: c :: d :: rest => some (some ⟨a.toNat, b.toNat, c.toNat, d.toNat⟩, rest)
      | _ => none
    else some (none, bs)

def readFace : List Byte → Option FaceBody
  | f :: p :: r₀ => do
    let (panelId, r₁) ← takeOptByte (bit 0 p) r₀
    let (roles, r₂) ← takeOptRoles (bit 1 p) r₁
    let (speed, r₃) ← takeOptByte (bit 2 p) r₂
    let (depth, r₄) ← takeOptByte (bit 3 p) r₃
    let (callTimes, r₅) ← takeOptByte (bit 4 p) r₄
    let (autoWake, r₆) ← takeOptByte (bit 5 p) r₅
    match r₆ with
    | [] => some ⟨f.toNat, panelId, roles, speed, depth, callTimes, autoWake⟩
    | _ => none
  | _ => none

/-- `n` curve points. -/
def readPoints : Nat → List Byte → Option (List RawPoint)
  | 0, [] => some []
  | n + 1, h :: l :: b :: rest => (readPoints n rest).map fun ps => ⟨word h l, b.toNat⟩ :: ps
  | _, _ => none

def readShow : List Byte → Option ShowBody
  | m :: rest => (wholeText rest).map fun t => ⟨m.toNat, t⟩
  | [] => none

def readWarn : List Byte → Option WarnBody
  | m :: dh :: dl :: rest => (wholeText rest).map fun t => ⟨m.toNat, word dh dl, t⟩
  | _ => none

def readApproach : List Byte → Option ApproachBody
  | i :: s :: m :: h :: d :: rest =>
    (wholeText rest).map fun t => ⟨i.toNat, s.toNat, m.toNat, h.toNat, d.toNat, t⟩
  | _ => none

def readTiming : List Byte → Option TimingBody
  | p :: r₀ => do
    let (followDwell, r₁) ← takeOptByte (bit 0 p) r₀
    let (clearDown, r₂) ← takeOptByte (bit 1 p) r₁
    let (silenceLimit, r₃) ← takeOptWord (bit 2 p) r₂
    let (wakeTimeout, r₄) ← takeOptWord (bit 3 p) r₃
    let (rampStep, r₅) ← takeOptWord (bit 4 p) r₄
    let (passGap, r₆) ← takeOptWord (bit 5 p) r₅
    let (loadIdle, r₇) ← takeOptByte (bit 6 p) r₆
    let (pageDwell, r₈) ← takeOptByte (bit 7 p) r₇
    match r₈ with
    | [] => some ⟨followDwell, clearDown, silenceLimit, wakeTimeout, rampStep, passGap, loadIdle, pageDwell⟩
    | _ => none
  | [] => none

/-- The command a CALLS frame spells: its ABANDON flag chooses the row. -/
def decodeCalls (addr : Nat) (body : List Byte) : Instr :=
  match readCalls body with
  | some (false, b) => .calls addr (.fields b)
  | some (true, b) => .callsAbandon addr (.fields b)
  | none => .calls addr .malformed

/-- The command a POWER frame spells (R198: OFF 0, ON 1). -/
def decodePower (addr : Nat) : List Byte → Instr
  | [f, act] =>
    if act = 1#8 then .powerOn addr (.fields f.toNat)
    else if act = 0#8 then .powerOff addr (.fields f.toNat)
    else .powerOn addr .malformed
  | _ => .powerOn addr .malformed

/-- The command a DIM frame spells (R198: MANUAL 0, AUTO 1). -/
def decodeDim (addr : Nat) : List Byte → Instr
  | [m, mode, level] =>
    if mode = 0#8 then .dimManual addr (.fields ⟨m.toNat, level.toNat⟩)
    else if mode = 1#8 then .dimAuto addr (.fields ⟨m.toNat, level.toNat⟩)
    else .dimManual addr .malformed
  | _ => .dimManual addr .malformed

/-- The command a SHOW frame spells (R198: NOTICE 0, DISRUPTION 1, FALLBACK 2). -/
def decodeShow (addr : Nat) : List Byte → Instr
  | source :: rest =>
    if source = 0#8 then .showNotice addr (.ofOption (readShow rest))
    else if source = 1#8 then .showDisruption addr (.ofOption (readShow rest))
    else if source = 2#8 then .showFallback addr (.ofOption (readShow rest))
    else .showNotice addr .malformed
  | [] => .showNotice addr .malformed

/-- The command a CLEAR frame spells (R198: NOTICE 0, DISRUPTION 1, WARNING 2). -/
def decodeClear (addr : Nat) : List Byte → Instr
  | [source, m] =>
    if source = 0#8 then .clearNotice addr (.fields m.toNat)
    else if source = 1#8 then .clearDisruption addr (.fields m.toNat)
    else if source = 2#8 then .clearWarning addr (.fields m.toNat)
    else .clearNotice addr .malformed
  | _ => .clearNotice addr .malformed

/-- The command a RESTART frame spells (R198: ALL 0, CONTENT 1). -/
def decodeRestart (addr : Nat) : List Byte → Instr
  | [scope] =>
    if scope = 0#8 then .restartAll addr (.fields ())
    else if scope = 1#8 then .restartContent addr (.fields ())
    else .restartAll addr .malformed
  | _ => .restartAll addr .malformed

def readEmpty : List Byte → Option Unit
  | [] => some ()
  | _ => none

/-- The clear flag of a STATUS body: bit 0 of its flags byte (R195). -/
def readStatus : List Byte → Option Bool
  | [flags] => some (bit 0 flags)
  | _ => none

/-- The command that a good frame's kind and body spell. -/
def decodeRequest (addr kind : Nat) (body : List Byte) : Instr :=
  if kind = Kind.time then .time addr (.ofOption (readTime body))
  else if kind = Kind.post then .post addr (.ofOption (readPost body))
  else if kind = Kind.amend then .amend addr (.ofOption (readAmend body))
  else if kind = Kind.calls then decodeCalls addr body
  else if kind = Kind.drop then .drop addr (.ofOption (readWord body))
  else if kind = Kind.read then .read addr (.ofOption (readRead body))
  else if kind = Kind.list then .list addr (.ofOption (readList body))
  else if kind = Kind.curve then .curve addr (.ofOption (readPoints 8 body))
  else if kind = Kind.place then .place addr (readPlace body)
  else if kind = Kind.unplace then .unplace addr (.ofOption (readWord body))
  else if kind = Kind.glyph then .glyph addr (.ofOption (readGlyph body))
  else if kind = Kind.strike then .strike addr (.ofOption (readKey body))
  else if kind = Kind.restore then .restore addr (.ofOption (readByte body))
  else if kind = Kind.face then .face addr (.ofOption (readFace body))
  else if kind = Kind.power then decodePower addr body
  else if kind = Kind.dim then decodeDim addr body
  else if kind = Kind.show then decodeShow addr body
  else if kind = Kind.clear then decodeClear addr body
  else if kind = Kind.warn then .warn addr (.ofOption (readWarn body))
  else if kind = Kind.approach then .approach addr (.ofOption (readApproach body))
  else if kind = Kind.timing then .timing addr (.ofOption (readTiming body))
  else if kind = Kind.collect then .collect addr (.ofOption (readEmpty body))
  else if kind = Kind.status then .status addr (.ofOption (readStatus body))
  else if kind = Kind.restart then decodeRestart addr body
  else .unknownKind addr kind

/-! ### The receiver, from IDLE (R185, R186) -/

/-- Whether a frame with this address byte concerns a part whose own address is `own` (R185); address 0 gives the part
no own address (R183). -/
def addressConcerns (own : Nat) (a : Byte) : Bool :=
  !bit 7 a && (a.toNat % 32 == 0 || (own != 0 && a.toNat % 32 == own))

/-- What the bytes after a start marker come to, the line falling quiet after the last of them, and the bytes left over. -/
def receiveAfterMarker (own : Nat) : List Byte → Instr × List Byte
  | [] => (.frameAbort false, [])
  | a :: kind :: len :: rest =>
    if Config.bodyLimit < len.toNat then
      (if addressConcerns own a then .frameLengthError else .foreignFrame false, rest)
    else
      match rest.drop len.toNat with
      | hi :: lo :: left =>
        if addressConcerns own a then
          if (hi ++ lo : BitVec 16) = crc16 (a :: kind :: len :: rest.take len.toNat) then
            (decodeRequest (a.toNat % 32) kind.toNat (rest.take len.toNat), left)
          else (.frameCheckError, left)
        else (.foreignFrame false, left)
      | _ => (if addressConcerns own a then .frameAbort true else .foreignFrame true, [])
  | a :: _ => (if addressConcerns own a then .frameAbort true else .foreignFrame true, [])

/-- The first command that bytes taken in IDLE spell, with the bytes left over: bytes before a start marker are
discarded. `none` when no frame starts. -/
def receiveFrame (own : Nat) : List Byte → Option (Instr × List Byte)
  | [] => none
  | b :: rest => if b = 0xC3#8 then some (receiveAfterMarker own rest) else receiveFrame own rest

/-! ### The frame of a request -/

def postTailBytes : PostTail → List Byte
  | .afterDest1 => []
  | .afterCoaches1 c1 => u8 c1
  | .afterDest2 c1 d2 => u8 c1 ++ u16 d2
  | .afterCoaches2 c1 d2 c2 => u8 c1 ++ u16 d2 ++ u8 c2
  | .afterReason c1 d2 c2 r => u8 c1 ++ u16 d2 ++ u8 c2 ++ textBytes r

def postBytes (b : PostBody) : List Byte :=
  u16 b.handle ++ rawTimeBytes b.sched ++ u8 b.state ++ rawTimeBytes b.expected ++ u8 b.portions ++ u16 b.dest1 ++
    postTailBytes b.tail

def amendBytes (b : AmendBody) : List Byte :=
  u16 b.handle ++ u8 b.state ++ rawTimeBytes b.expected ++ u8 b.action ++ textBytes b.reason

def rawEntryBytes (e : RawEntry) : List Byte :=
  u8 e.key ++ u16 e.place ++ rawTimeBytes e.time ++ u8 e.mask ++ u8 (bitByte 0 e.listed)

def callsBytes (abandon : Bool) (b : CallsBody) : List Byte :=
  u16 b.handle ++ u8 (bitByte 0 abandon + bitByte 1 b.fresh + bitByte 2 b.close) ++ u8 b.entries.length ++
    b.entries.flatMap rawEntryBytes

def rawPlaceBytes (p : RawPlace) : List Byte :=
  u16 p.id ++ code3Bytes p.code ++ textBytes p.full ++ textBytes p.short

def placesBytes (ps : List RawPlace) : List Byte := u8 ps.length ++ ps.flatMap rawPlaceBytes

def glyphBytes (b : GlyphBody) : List Byte := u8 b.code ++ u8 b.advance ++ b.rows.flatMap u16

def optByteBytes : Option Nat → List Byte
  | some n => u8 n
  | none => []

def optWordBytes : Option Nat → List Byte
  | some n => u16 n
  | none => []

def optRolesBytes : Option (Quad Nat) → List Byte
  | some r => u8 r.q0 ++ u8 r.q1 ++ u8 r.q2 ++ u8 r.q3
  | none => []

def faceBytes (b : FaceBody) : List Byte :=
  u8 b.face ++
    u8 (bitByte 0 b.panelId.isSome + bitByte 1 b.roles.isSome + bitByte 2 b.speed.isSome + bitByte 3 b.depth.isSome +
      bitByte 4 b.callTimes.isSome + bitByte 5 b.autoWake.isSome) ++
    optByteBytes b.panelId ++ optRolesBytes b.roles ++ optByteBytes b.speed ++ optByteBytes b.depth ++
    optByteBytes b.callTimes ++ optByteBytes b.autoWake

def pointBytes (p : RawPoint) : List Byte := u16 p.ambient ++ u8 p.level

def showBytes (source : Nat) (b : ShowBody) : List Byte := u8 source ++ u8 b.mask ++ textBytes b.text

def warnBytes (b : WarnBody) : List Byte := u8 b.mask ++ u16 b.duration ++ textBytes b.text

def approachBytes (b : ApproachBody) : List Byte :=
  u8 b.input ++ u8 b.sensitivity ++ u8 b.mask ++ u8 b.hold ++ u8 b.duration ++ textBytes b.text

def timingBytes (b : TimingBody) : List Byte :=
  u8 (bitByte 0 b.followDwell.isSome + bitByte 1 b.clearDown.isSome + bitByte 2 b.silenceLimit.isSome +
    bitByte 3 b.wakeTimeout.isSome + bitByte 4 b.rampStep.isSome + bitByte 5 b.passGap.isSome +
    bitByte 6 b.loadIdle.isSome + bitByte 7 b.pageDwell.isSome) ++
    optByteBytes b.followDwell ++ optByteBytes b.clearDown ++ optWordBytes b.silenceLimit ++
    optWordBytes b.wakeTimeout ++ optWordBytes b.rampStep ++ optWordBytes b.passGap ++ optByteBytes b.loadIdle ++
    optByteBytes b.pageDwell

/-- A request of the line: its address, its kind code and the bytes of its body. -/
structure RequestFrame where
  addr : Nat
  kind : Nat
  body : List Byte
deriving DecidableEq, Repr

/-- The request of the line that spells a command; none for a command that is no request, or whose body is malformed. -/
def requestFrame : Instr → Option RequestFrame
  | .time a (.fields b) => some ⟨a, Kind.time, u8 b.hours ++ u8 b.minutes ++ u8 b.seconds⟩
  | .post a (.fields b) => some ⟨a, Kind.post, postBytes b⟩
  | .amend a (.fields b) => some ⟨a, Kind.amend, amendBytes b⟩
  | .calls a (.fields b) => some ⟨a, Kind.calls, callsBytes false b⟩
  | .callsAbandon a (.fields b) => some ⟨a, Kind.calls, callsBytes true b⟩
  | .drop a (.fields h) => some ⟨a, Kind.drop, u16 h⟩
  | .read a (.fields b) => some ⟨a, Kind.read, u8 b.selector ++ u16 b.value⟩
  | .list a (.fields b) => some ⟨a, Kind.list, u16 b.handle ++ u8 b.source ++ u8 b.start⟩
  | .place a (.fields ps) => some ⟨a, Kind.place, placesBytes ps⟩
  | .unplace a (.fields i) => some ⟨a, Kind.unplace, u16 i⟩
  | .glyph a (.fields b) => some ⟨a, Kind.glyph, glyphBytes b⟩
  | .strike a (.fields k) => some ⟨a, Kind.strike, code3Bytes k⟩
  | .restore a (.fields i) => some ⟨a, Kind.restore, u8 i⟩
  | .face a (.fields b) => some ⟨a, Kind.face, faceBytes b⟩
  | .powerOn a (.fields f) => some ⟨a, Kind.power, u8 f ++ u8 1⟩
  | .powerOff a (.fields f) => some ⟨a, Kind.power, u8 f ++ u8 0⟩
  | .dimManual a (.fields b) => some ⟨a, Kind.dim, u8 b.mask ++ u8 0 ++ u8 b.level⟩
  | .dimAuto a (.fields b) => some ⟨a, Kind.dim, u8 b.mask ++ u8 1 ++ u8 b.level⟩
  | .curve a (.fields ps) => some ⟨a, Kind.curve, ps.flatMap pointBytes⟩
  | .showNotice a (.fields b) => some ⟨a, Kind.show, showBytes 0 b⟩
  | .showDisruption a (.fields b) => some ⟨a, Kind.show, showBytes 1 b⟩
  | .showFallback a (.fields b) => some ⟨a, Kind.show, showBytes 2 b⟩
  | .clearNotice a (.fields m) => some ⟨a, Kind.clear, u8 0 ++ u8 m⟩
  | .clearDisruption a (.fields m) => some ⟨a, Kind.clear, u8 1 ++ u8 m⟩
  | .clearWarning a (.fields m) => some ⟨a, Kind.clear, u8 2 ++ u8 m⟩
  | .warn a (.fields b) => some ⟨a, Kind.warn, warnBytes b⟩
  | .approach a (.fields b) => some ⟨a, Kind.approach, approachBytes b⟩
  | .timing a (.fields b) => some ⟨a, Kind.timing, timingBytes b⟩
  | .collect a (.fields _) => some ⟨a, Kind.collect, []⟩
  | .status a (.fields c) => some ⟨a, Kind.status, u8 (bitByte 0 c)⟩
  | .restartAll a (.fields _) => some ⟨a, Kind.restart, u8 0⟩
  | .restartContent a (.fields _) => some ⟨a, Kind.restart, u8 1⟩
  | .unknownKind a k => some ⟨a, k, []⟩
  | _ => none

/-- A frame (R184): start marker, address byte, kind, length, body and check. -/
def frameBytes (addressByte kind : Nat) (body : List Byte) : List Byte :=
  let covered := u8 addressByte ++ u8 kind ++ u8 body.length ++ body
  [0xC3#8] ++ covered ++ u16 (crc16 covered).toNat

/-- The bytes of the frame that spells a command. -/
def encodeFrame (i : Instr) : Option (List Byte) :=
  (requestFrame i).map fun r => frameBytes r.addr r.kind r.body

/-- The command a word spells by the bits of spec/opcode_table.json: the table gives no row any bits. -/
def decodeTableWord (_nbits _w : Nat) : Option Instr := none

end Sys2Proof
end

