-- ==== Sys2Proof/Machine/State.lean ====
section
/-! DEFINITION. The state of the part, block by block (00_scope.md, Functional blocks), the reasons a step can stop, and
the state after power-on. All of it is plain data. -/

namespace Sys2Proof.Machine

open Sys2Proof

/-! ### Service table, patterns (R4, R26, R31) -/

/-- The state of a service, with the expected minute of day and `exp_abs` in state EXPECTED only (R4, R5). -/
inductive ServiceState where
  | onTime
  | expected (minute : Nat) (abs : Int)
  | delayed
  | cancelled
deriving DecidableEq, Repr

structure Portion where
  dest : Nat
  coaches : Option Nat
deriving DecidableEq, Repr

inductive PortionMask where
  | both | first | second
deriving DecidableEq, Repr

/-- The mark of a calling entry together with its struck-by (R26, R27). -/
inductive Mark where
  | calling
  | listed
  | strike (id : Nat)
deriving DecidableEq, Repr

/-- A calling entry (R26). `time` is a minute of day. -/
structure Entry where
  key : Nat
  place : Nat
  time : Option Nat
  mask : PortionMask
  mark : Mark
deriving DecidableEq, Repr

/-- A load context (R31), kept with the service it loads; `idle` in seconds. -/
structure Load where
  entries : List Entry
  idle : Timer
deriving DecidableEq, Repr

/-- A service record (R4) with the slot it occupies. `rear` is portion 2. -/
structure Service where
  slot : Nat
  handle : Nat
  sched : Nat
  schedAbs : Int
  state : ServiceState
  front : Portion
  rear : Option Portion
  reason : Option Text
  active : Option (List Entry)
  load : Option Load
deriving DecidableEq, Repr

/-- The platform clock (R9); `second` is the second interval, in ms. -/
structure Clock where
  valid : Bool
  hours : Nat
  minutes : Nat
  seconds : Nat
  pmc : Nat
  second : Timer
deriving DecidableEq, Repr

/-! ### Place dictionary, character set, strike list (R47, R58, R60, R64) -/

structure PlaceEntry where
  id : Nat
  code : Code3
  full : Text
  short : Option Text
  refs : Nat
deriving DecidableEq, Repr

/-- A user glyph (R58): 16 rows, column 0 of a row being its most significant bit. -/
structure UserGlyph where
  advance : Nat
  rows : List (BitVec 12)
deriving DecidableEq, Repr

structure Strike where
  id : Nat
  key : Code3
  releasing : Bool
deriving DecidableEq, Repr

inductive ScanOp where
  | strike | restore
deriving DecidableEq, Repr

/-- The scan in flight (R64). -/
structure Scan where
  op : ScanOp
  id : Nat
  next : Nat
  marks : Nat
  touched : Nat
deriving DecidableEq, Repr

/-! ### Faces: record, lines, rotation, scroll states (R118, R125, R88, R102) -/

inductive Role where
  | head | calls | follow | notice | blank
deriving DecidableEq, Repr

structure Geometry where
  width : Nat
  lines : Nat
deriving DecidableEq, Repr

/-- The request state of a face record (R129). -/
inductive Request where
  | none | waiting | granted
deriving DecidableEq, Repr

/-- The face record (R118) without its per-line flags. -/
structure FaceRecord where
  panelId : Nat
  roles : Quad Role
  speed : Nat
  depth : Nat
  callTimes : Bool
  autoWake : Bool
  geometry : Option Geometry
  shown : Buf
  request : Request
deriving DecidableEq, Repr

/-- A scroll state (R102) with the fields each phase uses: `w` and `wa` the measures W and Wa, `n` the steps taken, `k`
the step interval K, `wait` the wait of the next step and `gap` the pass gap the gap timer was started for, both in
pacing periods. D is `w + wa`. The step timer runs in `pass`, the gap timer in `gap`. -/
inductive Scroll where
  | idle
  | still (w wa : Nat)
  | pass (w wa n k wait : Nat)
  | gap (w wa gap : Nat)
deriving DecidableEq, Repr

/-- One line of a face: its holds-current flags for buffers 0 and 1 (R125), its clipped mark (R99), its scroll state. -/
structure Line where
  cur0 : Bool
  cur1 : Bool
  clipped : Bool
  scroll : Scroll
deriving DecidableEq, Repr

/-- The follow rotation (R88); `dwell` in seconds. -/
structure Rotation where
  index : Nat
  dwell : Timer
deriving DecidableEq, Repr

/-! ### Overrides (R151, R152, R154, R159) -/

inductive Source where
  | stationNotice | stationDisruption | feedLost | stationWarning | approachA | approachB
deriving DecidableEq, Repr

/-- An entry of an override list; its level is that of its source. -/
structure OverrideEntry where
  source : Source
  stamp : Nat
deriving DecidableEq, Repr

/-- The text of each source (R151). -/
structure SourceTexts where
  notice : Text
  disruption : Text
  feedLost : Text
  warning : Text
  approachA : Text
  approachB : Text
deriving DecidableEq, Repr

inductive Sensitivity where
  | off | low | rising | falling | both
deriving DecidableEq, Repr

inductive InputState where
  | clear | active | holding
deriving DecidableEq, Repr

/-- An approach input (R159 to R162): its raw pin level, its debounced level, its debounce timer (ms), its configuration,
its state, and its hold and duration timers (s). Levels are `true` for HIGH. -/
structure Approach where
  raw : Bool
  debounced : Bool
  debounce : Timer
  sensitivity : Sensitivity
  mask : Quad Bool
  hold : Nat
  duration : Nat
  state : InputState
  holdTimer : Timer
  durationTimer : Timer
deriving DecidableEq, Repr

/-! ### Panels and brightness (R165, R176, R182) -/

inductive PanelMode where
  | unbound | absent | off | waking | live | retiring | faulted
deriving DecidableEq, Repr

inductive Cause where
  | none | noAnswer | overcurrent | overtemp | removed | requested
deriving DecidableEq, Repr

inductive WakeStep where
  | settling | awaitingReady
deriving DecidableEq, Repr

/-- A shutdown tail (R182): the panel ID the face held, and its retire delay timer (ms). -/
structure Tail where
  panel : Nat
  delay : Timer
deriving DecidableEq, Repr

/-- The panel supervisor's fields for a face (R165), its sense input (R166), its POLL or LEVEL awaiting PANEL_STATE with
the answer limit (R171), and a shutdown tail that may run (R182). Timers in ms. -/
structure Panel where
  mode : PanelMode
  cause : Cause
  power : Bool
  step : Option WakeStep
  settle : Timer
  wake : Timer
  retireDelay : Timer
  poll : Timer
  awaiting : Timer
  ambient : Option Nat
  sense : Bool
  tail : Option Tail
deriving DecidableEq, Repr

/-- The brightness fields of a face (R176); `auto` is mode AUTO, `ramp` in ms. -/
structure Brightness where
  auto : Bool
  target : Nat
  level3 : Bool
  present : Nat
  ramp : Timer
  report : Option Nat
deriving DecidableEq, Repr

/-- All the part holds for one face; `pageTimer` and `warning` in seconds. -/
structure Face where
  record : FaceRecord
  lines : Quad Line
  rotation : Rotation
  overrides : List OverrideEntry
  page : Nat
  pageTimer : Timer
  warning : Timer
  panel : Panel
  bright : Brightness
deriving DecidableEq, Repr

/-- A point of the brightness curve (R179). -/
structure CurvePoint where
  ambient : Nat
  level : Nat
deriving DecidableEq, Repr

/-! ### Render engine and panel link (R134, R138, R149, R171) -/

inductive RenderPhase where
  | walking | flipping
deriving DecidableEq, Repr

/-- The render record (R134); `answer` in ms. -/
structure Render where
  face : FaceId
  hidden : Buf
  phase : RenderPhase
  walk : Nat
  inFlight : Option LineId
  sent : Quad Bool
  overtaken : Quad Bool
  answer : Timer
deriving DecidableEq, Repr

/-- The grant state (HELD exactly while `render` is present) and the grant history, least recently granted first. -/
structure Engine where
  render : Option Render
  history : List FaceId
deriving DecidableEq, Repr

/-- A line image (R96): 16 rows of as many columns as the face is wide. -/
abbrev Image := List (List Bool)

/-- A panel link message (R138, R171). DESIGN CHOICE: the panels themselves are not held (notes/assumptions/24.md). -/
inductive PanelMsg where
  | line (panel : Nat) (buffer : Buf) (line : LineId) (image : Image)
  | flip (panel : Nat) (buffer : Buf)
  | wake (panel : Nat)
  | poll (panel : Nat)
  | level (panel : Nat) (level : Nat)
  | dark (panel : Nat)
  | sleep (panel : Nat)
deriving DecidableEq, Repr

/-- What a message under way belongs to: the render in flight, the supervisor's work for a face, a shutdown tail. -/
inductive MsgOwner where
  | engine
  | face (f : FaceId)
  | tail (f : FaceId)
deriving DecidableEq, Repr

inductive SupKind where
  | wake | poll | level | dark | sleep
deriving DecidableEq, Repr

/-- A supervisor message that waits for the transmitter (R171). The level of a LEVEL is read when it is given the
transmitter. -/
structure SupMsg where
  face : FaceId
  tail : Bool
  panel : Nat
  kind : SupKind
deriving DecidableEq, Repr

/-- The transmitter (R149). `engineTurn`: it has been given to the engine, whose turn (the command RENDER_TURN) has yet
to choose and compose the message. A message whose owner has given it up is sent to its end with owner `none`. -/
inductive Transmitter where
  | free
  | engineTurn
  | sending (msg : PanelMsg) (owner : Option MsgOwner)
deriving DecidableEq, Repr

/-- The panel link: its transmitter, the supervisor's waiting messages in the order they were asked for, and whether the
engine waits. -/
structure PanelLink where
  tx : Transmitter
  waiting : List SupMsg
  engineWaits : Bool
deriving DecidableEq, Repr

/-! ### Station link port (R183 to R196) -/

inductive Receiver where
  | hunt | idle | inFrame
deriving DecidableEq, Repr

/-- Result codes (R2, R198). -/
inductive Result where
  | done | accepted | busy | unknown | full | range | state | format | noPlace | inUse | duplicate
deriving DecidableEq, Repr

/-- Status codes of READ (R24, R198). -/
inductive StatusCode where
  | cancelled | delayed | due | expected | onTime
deriving DecidableEq, Repr

inductive ApproachReason where
  | holdExpired | durationExpired | reconfigured
deriving DecidableEq, Repr

inductive ApproachEvent where
  | raised
  | ended (reason : ApproachReason)
deriving DecidableEq, Repr

/-- A notice (R193): its kind and subject are its constructor with the slot, face or input. -/
inductive Notice where
  | serviceExpired (slot handle sched : Nat)
  | patternLost (slot handle : Nat)
  | scanDone (id : Nat) (op : ScanOp) (marks touched : Nat) (hit : Bool)
  | faceState (face : FaceId) (mode : PanelMode) (cause : Cause)
  | levelReached (face : FaceId) (level : Nat)
  | feed (restored : Bool)
  | approach (input : InputId) (event : ApproachEvent) (mask : Quad Bool)
deriving DecidableEq, Repr

/-- The eight settings of TIMING (R196), in the units of its table. -/
structure Timing where
  followDwell : Nat
  clearDown : Nat
  silenceLimit : Nat
  wakeTimeout : Nat
  rampStep : Nat
  passGap : Nat
  loadIdle : Nat
  pageDwell : Nat
deriving DecidableEq, Repr

/-- The fields of a READ reply (R24, R198). -/
structure ReadReply where
  handle : Nat
  sched : Nat
  state : ServiceState
  front : Portion
  rear : Option Portion
  reason : Option Text
  slot : Nat
  position : Nat
  status : StatusCode
  patternPresent : Bool
  patternLength : Nat
  loadOpen : Bool
deriving DecidableEq, Repr

/-- The fields of a FACE reply (R121). -/
structure FaceReply where
  panelId : Nat
  roles : Quad Role
  speed : Nat
  depth : Nat
  callTimes : Bool
  autoWake : Bool
  geometry : Option Geometry
  mode : PanelMode
deriving DecidableEq, Repr

/-- What a STATUS reply says of one face (R195). -/
structure FaceStatus where
  mode : PanelMode
  cause : Cause
  level : Nat
  clipped : Bool
deriving DecidableEq, Repr

/-- The four error counters (R191). -/
structure Counters where
  check : Nat
  length : Nat
  abort : Nat
  overrun : Nat
deriving DecidableEq, Repr

/-- The fields of a STATUS reply (R195). -/
structure StatusReply where
  valid : Bool
  hours : Nat
  minutes : Nat
  seconds : Nat
  pmc : Nat
  services : Nat
  freeCells : Nat
  openLoads : Nat
  places : Nat
  strikes : Nat
  scan : Option (ScanOp × Nat)
  feedLost : Bool
  faces : Quad FaceStatus
  counters : Counters
deriving DecidableEq, Repr

/-- The fields of a reply after its header (R198). -/
inductive ReplyFields where
  | none
  | slot (slot : Nat)
  | calls (isOpen : Bool) (pending : Nat) (present : Bool) (active free : Nat)
  | read (reply : ReadReply)
  | list (pending present : Bool) (length start : Nat) (entries : List Entry)
  | places (count marks : Nat)
  | placeRefused (position : Nat)
  | placeCount (count : Nat)
  | strikeId (id : Nat)
  | face (reply : FaceReply)
  | panel (mode : PanelMode) (cause : Cause)
  | timing (settings : Timing)
  | notice (taken : Option Notice)
  | status (reply : StatusReply)
deriving DecidableEq, Repr

/-- A reply (R189): kind code of the request, result code, pending notice count, fields. -/
structure Reply where
  kind : Nat
  result : Result
  count : Nat
  fields : ReplyFields
deriving DecidableEq, Repr

/-- The silence timer (R192); `running` holds the limit it was started for, in seconds. -/
inductive Silence where
  | running (limit : Nat)
  | expired
deriving DecidableEq, Repr

/-- The station link port (R183 to R193). `reply` is the pending reply; `sending` holds the bytes of the reply frame while
the driver is enabled and they go out on the pair. -/
structure Port where
  rate : Nat
  address : Nat
  receiver : Receiver
  reply : Option Reply
  sending : Option (List Byte)
  counters : Counters
  silence : Silence
deriving DecidableEq, Repr

/-! ### The whole -/

structure State where
  clock : Clock
  services : List Service
  order : List Nat
  freeCells : Nat
  places : List PlaceEntry
  glyphs : List UserGlyph
  strikes : List Strike
  scan : Option Scan
  faces : Quad Face
  engine : Engine
  link : PanelLink
  texts : SourceTexts
  nextStamp : Nat
  approach : Pair Approach
  curve : List CurvePoint
  timing : Timing
  port : Port
  notices : List Notice
  /-- MODEL's own: how many free values have been drawn; its value at reset is a DESIGN CHOICE (notes/assumptions/4.md). -/
  draws : Nat
  /-- MODEL's own: the commands that wait, first in first out (DESIGN CHOICE, notes/assumptions/6.md). -/
  pending : List Instr
deriving DecidableEq, Repr

/-- Reasons for a fault: none. No rule stops the part with a fault, so no meaning raises one (safe;
DEDUCED, notes/assumptions/23.md). -/
inductive Fault where
deriving DecidableEq, Repr

/-- Reasons for a refusal. -/
inductive Refusal where
  /-- Raised by an arm of `exec` whose command has no meaning yet; no arm raises it at present (safe). -/
  | notModelled (mnemonic : String)
deriving DecidableEq, Repr

/-! ### Power-on values -/

/-- The character codes of a text the manual quotes. -/
def codes (s : String) : Text := s.toList.map Char.toNat

/-- The clock after power-on (R9, R25). -/
def Clock.initial : Clock :=
  { valid := false, hours := 0, minutes := 0, seconds := 0, pmc := 0, second := none }

/-- A user glyph after power-on (R58). -/
def UserGlyph.initial : UserGlyph := { advance := 6, rows := List.replicate 16 0 }

/-- The 32 user glyphs after power-on (R58). -/
def initialGlyphs : List UserGlyph := List.replicate 32 UserGlyph.initial

def Line.initial : Line := { cur0 := false, cur1 := false, clipped := false, scroll := .idle }

/-- A face record after power-on (R118, R133). -/
def FaceRecord.initial : FaceRecord :=
  { panelId := 0
    roles := ⟨.head, .calls, .follow, .notice⟩
    speed := 30
    depth := 3
    callTimes := false
    autoWake := false
    geometry := none
    shown := .b0
    request := .none }

/-- The supervisor's fields of a face after power-on (R165), with the level of its sense input. -/
def Panel.initial (sense : Bool) : Panel :=
  { mode := .unbound
    cause := .none
    power := false
    step := none
    settle := none
    wake := none
    retireDelay := none
    poll := none
    awaiting := none
    ambient := none
    sense := sense
    tail := none }

/-- The brightness of a face after power-on (R176). -/
def Brightness.initial : Brightness :=
  { auto := false, target := 32, level3 := false, present := 0, ramp := none, report := none }

def Face.initial (sense : Bool) : Face :=
  { record := FaceRecord.initial
    lines := Quad.const Line.initial
    rotation := { index := 0, dwell := none }
    overrides := []
    page := 0
    pageTimer := none
    warning := none
    panel := Panel.initial sense
    bright := Brightness.initial }

/-- The source texts after power-on (R151, R164). -/
def SourceTexts.initial : SourceTexts :=
  { notice := []
    disruption := []
    feedLost := codes "Service information is temporarily unavailable."
    warning := []
    approachA := codes "Stand back. A train is approaching."
    approachB := codes "Stand back. A train is approaching." }

/-- An approach input with the configuration of power-on (R164), its raw level, debounced level and debounce timer given. -/
def Approach.initial (raw debounced : Bool) (debounce : Timer) : Approach :=
  { raw := raw
    debounced := debounced
    debounce := debounce
    sensitivity := .off
    mask := Quad.const true
    hold := 10
    duration := 60
    state := .clear
    holdTimer := none
    durationTimer := none }

/-- The brightness curve after power-on (R179). -/
def initialCurve : List CurvePoint :=
  [⟨0, 3⟩, ⟨20, 6⟩, ⟨60, 12⟩, ⟨150, 22⟩, ⟨300, 34⟩, ⟨500, 46⟩, ⟨750, 56⟩, ⟨1023, 63⟩]

/-- The eight settings after power-on (R196). -/
def Timing.initial : Timing :=
  { followDwell := 6
    clearDown := 1
    silenceLimit := 90
    wakeTimeout := 400
    rampStep := 40
    passGap := 1500
    loadIdle := 20
    pageDwell := 5 }

def Counters.zero : Counters := { check := 0, length := 0, abort := 0, overrun := 0 }

/-- The rate the baud straps select (R183). -/
def rateOf : Nat → Nat
  | 0 => 19200
  | 1 => 38400
  | 2 => 57600
  | _ => 115200

/-- The part after power-on or assertion of the reset input, its input pins at the levels given (R3). -/
def State.powerOn (pins : Pins) : State :=
  { clock := Clock.initial
    services := []
    order := []
    freeCells := Config.poolCells
    places := []
    glyphs := initialGlyphs
    strikes := []
    scan := none
    faces := pins.sense.map Face.initial
    engine := { render := none, history := [] }
    link := { tx := .free, waiting := [], engineWaits := false }
    texts := SourceTexts.initial
    nextStamp := 0
    approach :=
      { a := Approach.initial pins.approach.a pins.approach.a none
        b := Approach.initial pins.approach.b pins.approach.b none }
    curve := initialCurve
    timing := Timing.initial
    port :=
      { rate := rateOf pins.baud
        address := pins.address
        receiver := .hunt
        reply := none
        sending := none
        counters := Counters.zero
        silence := .running 90 }
    notices := []
    draws := 0
    pending := [] }

/-- DESIGN CHOICE (notes/assumptions/1.md): the levels of the input pins at `State.reset`. The board, not the part, sets
them: address 1, 19200 baud, both approach inputs LOW, no panel connected. -/
def resetPins : Pins :=
  { address := 1, baud := 0, approach := ⟨false, false⟩, sense := Quad.const false }

/-- The part right after power-on. -/
def State.reset : State := State.powerOn resetPins

end Sys2Proof.Machine
end

