-- ==== Sys2Proof/Machine/Operands.lean ====
section
/-! DEFINITION. Reading the fields of a request body: times, texts, masks, codes and clamped values (R2, R56, R198). Each
reader answers `none` where the field makes the body malformed. -/

namespace Sys2Proof.Machine

open Sys2Proof

/-- A value brought to the nearer end of its range (R2, Clamped). -/
def clamp (lo hi n : Nat) : Nat := max lo (min hi n)

/-- A count that holds at its largest value (R1). -/
def satAdd (limit a b : Nat) : Nat := min limit (a + b)

/-- The minute of day of a time whose hours and minutes are in range (R198, Time). -/
def minuteOf (t : RawTime) : Option Nat :=
  if t.hours ≤ 23 ∧ t.minutes ≤ 59 then some (t.hours * 60 + t.minutes) else none

/-- An optional time: hours 255 with minutes 255 means absent (R198). `none` where malformed. -/
def optMinuteOf (t : RawTime) : Option (Option Nat) :=
  if t.hours = 255 ∧ t.minutes = 255 then some none else (minuteOf t).map some

/-- A code a text may hold (R56). -/
def codeAllowed (c : Nat) : Bool := (decide (32 ≤ c) && decide (c ≤ 126)) || (decide (128 ≤ c) && decide (c ≤ 159))

/-- A text whose every code is allowed and whose length is in range (R56). -/
def textAllowed (lo hi : Nat) (t : Text) : Bool := decide (lo ≤ t.length) && decide (t.length ≤ hi) && t.all codeAllowed

/-- A character of a place code: A–Z or 0–9 (R47). -/
def isPlaceChar (c : Nat) : Bool := (decide (65 ≤ c) && decide (c ≤ 90)) || (decide (48 ≤ c) && decide (c ≤ 57))

/-- A character of a strike key: that of a place code, or `?` (R60). -/
def isKeyChar (c : Nat) : Bool := isPlaceChar c || c == 63

def isPlaceCode (c : Code3) : Bool := isPlaceChar c.c0 && isPlaceChar c.c1 && isPlaceChar c.c2

def isStrikeKey (c : Code3) : Bool := isKeyChar c.c0 && isKeyChar c.c1 && isKeyChar c.c2

/-- The faces a face mask names (R198, Face mask). -/
def maskFaces (m : Nat) : Quad Bool := ⟨m.testBit 0, m.testBit 1, m.testBit 2, m.testBit 3⟩

/-- A mask of one byte that names no face above 3. -/
def maskInRange (m : Nat) : Bool := decide (m % 256 < 16)

def anyFace (m : Quad Bool) : Bool := m.q0 || m.q1 || m.q2 || m.q3

def onOff : Nat → Option Bool
  | 0 => some false
  | 1 => some true
  | _ => none

def roleOf : Nat → Option Role
  | 0 => some .head
  | 1 => some .calls
  | 2 => some .follow
  | 3 => some .notice
  | 4 => some .blank
  | _ => none

def rolesOf (q : Quad Nat) : Option (Quad Role) :=
  match roleOf q.q0, roleOf q.q1, roleOf q.q2, roleOf q.q3 with
  | some a, some b, some c, some d => some ⟨a, b, c, d⟩
  | _, _, _, _ => none

def portionMaskOf : Nat → Option PortionMask
  | 0 => some .both
  | 1 => some .first
  | 2 => some .second
  | _ => none

def inputOf : Nat → Option InputId
  | 0 => some .a
  | 1 => some .b
  | _ => none

def sensitivityOf : Nat → Option Sensitivity
  | 0 => some .off
  | 1 => some .low
  | 2 => some .rising
  | 3 => some .falling
  | 4 => some .both
  | _ => none

/-- The four service state codes of POST and AMEND, before their times are known (R198). -/
inductive StateCode where
  | onTime | expected | delayed | cancelled
deriving DecidableEq, Repr

def stateCodeOf : Nat → Option StateCode
  | 0 => some .onTime
  | 1 => some .expected
  | 2 => some .delayed
  | 3 => some .cancelled
  | _ => none

/-- A text of length 0 stands for an absent one (R17, R49). -/
def textOrAbsent : Text → Option Text
  | [] => none
  | t => some t

/-- A count of 0 stands for an absent one (R17). -/
def countOrAbsent : Nat → Option Nat
  | 0 => none
  | n => some n

end Sys2Proof.Machine
end

