-- ==== Sys2Proof/Machine/Ops.lean ====
section
/-! DEFINITION. The named operations over the blocks of the state: faces, the notice queue, the place references and the
cell pool, the waiting messages of the panel link. -/

namespace Sys2Proof.Machine

open Sys2Proof

/-! ### Faces -/

def State.face (s : State) (f : FaceId) : Face := s.faces.get f

/-- Replace the fields of one face. -/
def State.modFace (s : State) (f : FaceId) (g : Face → Face) : State :=
  { s with faces := s.faces.set f (g (s.faces.get f)) }

/-- Act on every face at once. -/
def State.mapFaces (s : State) (g : FaceId → Face → Face) : State := { s with faces := s.faces.mapIdx g }

/-- Whether the panel of the face is LIVE (R165). -/
def Face.live (x : Face) : Bool := x.panel.mode == .live

/-- The line count of a face: 0 while its geometry is absent (R119). -/
def Face.lineCount (x : Face) : Nat :=
  match x.record.geometry with
  | some g => g.lines
  | none => 0

/-- The line width Wl of a face (chapter Fitting, Scrolling and Wrapping). -/
def Face.width (x : Face) : Nat :=
  match x.record.geometry with
  | some g => g.width
  | none => 0

/-- Whether line `j` of the face exists (R119). -/
def Face.hasLine (x : Face) (j : LineId) : Bool := decide (j.toNat < x.lineCount)

/-- The holds-current flag of a line for a buffer (R125). -/
def Line.current (l : Line) : Buf → Bool
  | .b0 => l.cur0
  | .b1 => l.cur1

def Line.setCurrent (l : Line) (b : Buf) (on : Bool) : Line :=
  match b with
  | .b0 => { l with cur0 := on }
  | .b1 => { l with cur1 := on }

/-- Both flags of a line clear: the line is stale (R125). -/
def Line.stale (l : Line) : Line := { l with cur0 := false, cur1 := false }

/-- The face bound to a panel ID from 1 up; no face is bound to 0 (R118). -/
def State.faceOf (s : State) (panel : Nat) : Option FaceId :=
  if panel = 0 then none else Four.all.find? fun f => (s.face f).record.panelId == panel

/-- The face's clipped indicator: set while an existing line has its clipped mark set (R99, R132). -/
def Face.clipped (x : Face) : Bool := Four.all.any fun j => x.hasLine j && (x.lines.get j).clipped

/-! ### The notice queue (R193) -/

/-- Whether two notices have the same kind and subject. -/
def Notice.sameSubject : Notice → Notice → Bool
  | .serviceExpired a _ _, .serviceExpired b _ _ => a == b
  | .patternLost a _, .patternLost b _ => a == b
  | .scanDone .., .scanDone .. => true
  | .faceState a _ _, .faceState b _ _ => a == b
  | .levelReached a _, .levelReached b _ => a == b
  | .feed _, .feed _ => true
  | .approach i _ _, .approach j _ _ => i == j
  | _, _ => false

/-- Post a notice: a held notice of its kind and subject takes its fields and keeps its place, and otherwise it joins the
queue as the newest. -/
def postNotice (n : Notice) (q : List Notice) : List Notice :=
  if q.any n.sameSubject then q.map fun m => if n.sameSubject m then n else m else q ++ [n]

def State.post (s : State) (n : Notice) : State := { s with notices := postNotice n s.notices }

/-! ### Services by slot and by handle (R4) -/

def State.slotService (s : State) (slot : Nat) : Option Service := s.services.find? fun v => v.slot == slot

def State.handleService (s : State) (handle : Nat) : Option Service := s.services.find? fun v => v.handle == handle

/-- Replace the service in a slot. -/
def State.modService (s : State) (slot : Nat) (g : Service → Service) : State :=
  { s with services := s.services.map fun v => if v.slot = slot then g v else v }

/-! ### Place entries and their references (R47, R48) -/

def State.placeOf (s : State) (id : Nat) : Option PlaceEntry := s.places.find? fun p => p.id == id

def State.hasPlace (s : State) (id : Nat) : Bool := s.places.any fun p => p.id == id

/-- Tell the dictionary of one reference gained for each id listed. -/
def State.gainRefs (s : State) (ids : List Nat) : State :=
  { s with places := s.places.map fun p => { p with refs := p.refs + ids.count p.id } }

/-- Tell the dictionary of one reference lost for each id listed. -/
def State.loseRefs (s : State) (ids : List Nat) : State :=
  { s with places := s.places.map fun p => { p with refs := p.refs - ids.count p.id } }

/-- The places the portions of a service name, one for each portion (R4). -/
def Service.dests (v : Service) : List Nat :=
  v.front.dest :: match v.rear with
    | some p => [p.dest]
    | none => []

/-- The entries of the active pattern; none while it is absent (R29). -/
def Service.activeEntries (v : Service) : List Entry := v.active.getD []

/-- The entries of the pending pattern; none while no load context is open (R31). -/
def Service.pendingEntries (v : Service) : List Entry :=
  match v.load with
  | some l => l.entries
  | none => []

/-- The places a service and its patterns hold references to (R48). -/
def Service.refs (v : Service) : List Nat :=
  v.dests ++ v.activeEntries.map Entry.place ++ v.pendingEntries.map Entry.place

/-- The cells a service's patterns occupy (R28). -/
def Service.cells (v : Service) : Nat := v.activeEntries.length + v.pendingEntries.length

/-- Return cells to the pool (R28). -/
def State.returnCells (s : State) (n : Nat) : State := { s with freeCells := s.freeCells + n }

/-- Take cells from the pool (R28). -/
def State.takeCells (s : State) (n : Nat) : State := { s with freeCells := s.freeCells - n }

/-! ### Error counters (R191) -/

def bump (n : Nat) : Nat := satAdd Config.counterMax n 1

def State.setCounters (s : State) (c : Counters) : State := { s with port := { s.port with counters := c } }

def State.setReceiver (s : State) (r : Receiver) : State := { s with port := { s.port with receiver := r } }

/-! ### The panel link (R149, R171) -/

/-- A supervisor message asks for the transmitter. -/
def State.ask (s : State) (m : SupMsg) : State := { s with link := { s.link with waiting := s.link.waiting ++ [m] } }

/-- The engine asks for the transmitter. -/
def State.engineAsks (s : State) : State := { s with link := { s.link with engineWaits := true } }

/-- Withdraw the waiting supervisor messages that `p` picks out. -/
def State.withdraw (s : State) (p : SupMsg → Bool) : State :=
  { s with link := { s.link with waiting := s.link.waiting.filter fun m => !p m } }

/-- A message under way whose owner gives it up is sent to its end and starts nothing (R149; DEDUCED,
notes/assumptions/14.md). -/
def Transmitter.disown (p : PanelMsg → MsgOwner → Bool) : Transmitter → Transmitter
  | .sending m (some o) => if p m o then .sending m none else .sending m (some o)
  | t => t

def State.disown (s : State) (p : PanelMsg → MsgOwner → Bool) : State :=
  { s with link := { s.link with tx := s.link.tx.disown p } }

/-- Whether a message is a POLL or a LEVEL, which await PANEL_STATE (R171). -/
def PanelMsg.awaitsState : PanelMsg → Bool
  | .poll _ => true
  | .level _ _ => true
  | _ => false

def SupKind.awaitsState : SupKind → Bool
  | .poll => true
  | .level => true
  | _ => false

/-! ### Sets of lines -/

def noLines : Quad Bool := Quad.const false

def addLine (q : Quad Bool) (j : LineId) : Quad Bool := q.set j true

def quadOr (p q : Quad Bool) : Quad Bool := Quad.ofFn fun i => p.get i || q.get i

def quadAnd (p q : Quad Bool) : Quad Bool := Quad.ofFn fun i => p.get i && q.get i

end Sys2Proof.Machine
end

