-- ==== Sys2Proof/Machine/Glyphs.lean ====
section
/-! DEFINITION. The character set: glyph advances and images, and the measure of a text (R57 to R59). -/

namespace Sys2Proof.Machine

open Sys2Proof

/-- The advance of a built-in glyph (R57). -/
def builtinAdvance (c : Nat) : Nat :=
  if c = 32 then 3
  else if 65 ≤ c ∧ c ≤ 90 then
    (if c = 73 then 3 else if c = 77 ∨ c = 87 then 9 else 7)
  else if 97 ≤ c ∧ c ≤ 122 then
    (if c = 105 ∨ c = 108 then 2
     else if c = 106 then 3
     else if c = 102 ∨ c = 116 then 4
     else if c = 109 ∨ c = 119 then 8
     else 6)
  else if 48 ≤ c ∧ c ≤ 57 then (if c = 49 then 4 else 6)
  else if c = 46 ∨ c = 44 ∨ c = 58 ∨ c = 59 ∨ c = 39 ∨ c = 33 then 2
  else if c = 40 ∨ c = 41 ∨ c = 91 ∨ c = 93 then 3
  else if c = 45 then 4
  else if c = 38 then 7
  else if c = 47 then 5
  else if c = 63 then 6
  else 6

/-- The user glyph of a code from 128 to 159 (R58). -/
def userGlyph (gs : List UserGlyph) (c : Nat) : UserGlyph := (gs[c - 128]?).getD UserGlyph.initial

/-- The advance of a character code (R57, R58). -/
def advance (gs : List UserGlyph) (c : Nat) : Nat :=
  if 128 ≤ c then (userGlyph gs c).advance else builtinAdvance c

/-- Whether a glyph lights a column of a row. The images of the built-in glyphs are a free value, the space having no lit
pixel (R57, notes/assumptions/3.md). -/
def glyphPixel (gs : List UserGlyph) (c row col : Nat) : Bool :=
  if 128 ≤ c then (((userGlyph gs c).rows[row]?).getD 0).getLsbD (11 - col) && decide (col < 12)
  else if c = 32 then false
  else Config.builtinPixel c row col

/-- The measure of a text: its advances, and one gap column between neighbours (R59). -/
def measure (gs : List UserGlyph) : Text → Nat
  | [] => 0
  | [c] => advance gs c
  | c :: d :: t => advance gs c + 1 + measure gs (d :: t)

/-- The longest prefix of whole glyphs of a text whose measure is not above `b` (R98, R116). -/
def longestFit (gs : List UserGlyph) (b : Nat) (t : Text) : Text :=
  t.take (((List.range (t.length + 1)).reverse.find? fun k => decide (measure gs (t.take k) ≤ b)).getD 0)

/-- A row of a user glyph as the part keeps it: columns at or beyond the advance are unlit, and bits 12 to 15 of the two
bytes are ignored (R58, R198). -/
def storedRow (adv row : Nat) : BitVec 12 :=
  BitVec.ofNat 12 row &&& ~~~(BitVec.allOnes 12 >>> adv)

end Sys2Proof.Machine
end

