-- ==== Sys2Proof/Machine/Table.lean ====
section
/-! DEFINITION. The service table and the platform clock: the window function, effective minutes, status, display order,
expiry (R5 to R18). -/

namespace Sys2Proof.Machine

open Sys2Proof

/-- The window of a difference of minutes of day, from −120 to 1319 (R10). -/
def window (x : Int) : Int :=
  let r := x % 1440
  if 1320 ≤ r then r - 1440 else r

/-- The step d of a TIME, from −720 to 719 (R12). -/
def timeStep (requested current : Nat) : Int :=
  let r := ((requested : Int) - current) % 1440
  if 720 ≤ r then r - 1440 else r

/-- The minute of day the clock's hours and minutes give (R9). -/
def Clock.minuteOfDay (c : Clock) : Nat := c.hours * 60 + c.minutes

/-- PMC moved by a signed step, saturating at both ends (R12). -/
def movePmc (pmc : Nat) (d : Int) : Nat := min Config.pmcMax ((pmc : Int) + d).toNat

/-- `sched_abs` of a service posted at a clock (R10). -/
def schedAbsAt (c : Clock) (sched : Nat) : Int := (c.pmc : Int) + window ((sched : Int) - c.minuteOfDay)

/-- `exp_abs` of an expected minute, windowed against the scheduled minute (R10, R22). -/
def expAbsOf (schedAbs : Int) (sched expected : Nat) : Int := schedAbs + window ((expected : Int) - sched)

/-- The effective minute `eff_abs` (R5). -/
def Service.effAbs (v : Service) : Int :=
  match v.state with
  | .expected _ abs => abs
  | _ => v.schedAbs

/-- Whether a service is due (R8). -/
def Service.due (pmc : Nat) (v : Service) : Bool :=
  match v.state with
  | .onTime => decide (v.effAbs ≤ pmc)
  | .expected _ _ => decide (v.effAbs ≤ pmc)
  | .delayed => false
  | .cancelled => false

/-- Whether a service has expired against the clear-down (R15). -/
def Service.expired (pmc clearDown : Nat) (v : Service) : Bool :=
  match v.state with
  | .delayed => decide ((Config.delayedHold : Int) < (pmc : Int) - v.schedAbs)
  | _ => decide ((clearDown : Int) < (pmc : Int) - v.effAbs)

/-- The status of a service: the first row of R8's table whose condition holds. -/
def Service.status (pmc : Nat) (v : Service) : StatusCode :=
  match v.state with
  | .cancelled => .cancelled
  | .delayed => .delayed
  | .onTime => if v.due pmc then .due else .onTime
  | .expected m _ => if v.due pmc then .due else if m ≠ v.sched then .expected else .onTime

/-- Whether `v` stands before `w` in the display order: by `eff_abs`, then `sched_abs`, then handle (R6). -/
def Service.before (v w : Service) : Bool :=
  decide (v.effAbs < w.effAbs) ||
    (v.effAbs == w.effAbs &&
      (decide (v.schedAbs < w.schedAbs) || (v.schedAbs == w.schedAbs && decide (v.handle < w.handle))))

/-- Insert a service at the position its keys give. -/
def insertInOrder (v : Service) : List Service → List Service
  | [] => [v]
  | w :: ws => if v.before w then v :: w :: ws else w :: insertInOrder v ws

/-- The services by the keys of R6. -/
def sortServices (vs : List Service) : List Service := vs.foldr insertInOrder []

/-- The display order of a table: its occupied slots, sorted (R6). -/
def displayOrder (vs : List Service) : List Nat := (sortServices vs).map Service.slot

/-- The service at a display position, counted from 1 (R6). -/
def State.serviceAt (s : State) (p : Nat) : Option Service :=
  if p = 0 then none else (s.order[p - 1]?).bind s.slotService

/-- The next service (R6). -/
def State.nextService (s : State) : Option Service := s.serviceAt 1

/-- The display position of a slot, counted from 1; 0 where the order does not hold it. -/
def State.positionOf (s : State) (slot : Nat) : Nat :=
  match s.order.idxOf? slot with
  | some i => i + 1
  | none => 0

/-- The lowest free slot (R4). -/
def State.freeSlot (s : State) : Option Nat :=
  (List.range Config.slotCount).find? fun k => !s.services.any fun v => v.slot == k

/-- Put a service into its slot. DESIGN CHOICE: the table is kept in ascending slot order (notes/assumptions/20.md). -/
def insertBySlot (v : Service) : List Service → List Service
  | [] => [v]
  | w :: ws => if v.slot < w.slot then v :: w :: ws else w :: insertBySlot v ws

/-- Remove a service: its slot is freed, its cells go back to the pool, its load context goes with it, and its references
are lost (R16, R23, R43). -/
def State.removeService (s : State) (v : Service) : State :=
  let s₁ := { s with services := s.services.filter fun w => w.slot ≠ v.slot }
  (s₁.returnCells v.cells).loseRefs v.refs

/-- Remove an expired service and post SERVICE_EXPIRED (R16). -/
def State.expireService (s : State) (v : Service) : State :=
  (s.removeService v).post (.serviceExpired v.slot v.handle v.sched)

/-- The services the expiry check finds, in ascending slot order (R15). -/
def State.expiredServices (s : State) : List Service :=
  s.services.filter fun v => v.expired s.clock.pmc s.timing.clearDown

/-- Remove every service the expiry check finds (R15, R16). -/
def State.expireAll (s : State) : State := s.expiredServices.foldl State.expireService s

/-- The display order brought up to date after a change of the table (R6). -/
def State.reorder (s : State) : State := { s with order := displayOrder s.services }

end Sys2Proof.Machine
end

