-- ==== Sys2Proof/Machine/Compose.lean ====
section
/-! DEFINITION. The composer: the text of each line from its role (R74 to R93), and of an override (R114 to R117). -/

namespace Sys2Proof.Machine

open Sys2Proof

/-- A line content record (R74). -/
inductive LineContent where
  | fielded (lead full short status : Text)
  | scrolling (text : Text)
  | centred (text : Text)
  | split (notice clock : Option Text)
  | empty
deriving DecidableEq, Repr

/-! ### Override lists read (R151, R152) -/

def Source.level : Source → Nat
  | .stationNotice => 1
  | .stationDisruption => 2
  | .feedLost => 2
  | .stationWarning => 3
  | .approachA => 3
  | .approachB => 3

def SourceTexts.get (t : SourceTexts) : Source → Text
  | .stationNotice => t.notice
  | .stationDisruption => t.disruption
  | .feedLost => t.feedLost
  | .stationWarning => t.warning
  | .approachA => t.approachA
  | .approachB => t.approachB

def SourceTexts.set (t : SourceTexts) (src : Source) (x : Text) : SourceTexts :=
  match src with
  | .stationNotice => { t with notice := x }
  | .stationDisruption => { t with disruption := x }
  | .feedLost => { t with feedLost := x }
  | .stationWarning => { t with warning := x }
  | .approachA => { t with approachA := x }
  | .approachB => { t with approachB := x }

/-- The source of the current board override: the first entry of level 2 or 3 (R152). -/
def Face.currentOverride (x : Face) : Option Source :=
  (x.overrides.find? fun e => decide (2 ≤ e.source.level)).map OverrideEntry.source

/-- Whether the face's list holds an entry of a source. -/
def Face.holds (x : Face) (src : Source) : Bool := x.overrides.any fun e => e.source == src

/-- The render request level of a face: that of its current board override, else 0 (R135). -/
def Face.requestLevel (x : Face) : Nat :=
  match x.currentOverride with
  | some src => src.level
  | none => 0

/-! ### Shared texts (R76, R77, R82) -/

/-- Two decimal digits. -/
def twoDigits (n : Nat) : Text := [48 + n / 10 % 10, 48 + n % 10]

/-- "hh:mm" (R76). -/
def timeText (minute : Nat) : Text := twoDigits (minute / 60) ++ [58] ++ twoDigits (minute % 60)

/-- "hh:mm:ss" (R76). -/
def clockText (c : Clock) : Text := twoDigits c.hours ++ [58] ++ twoDigits c.minutes ++ [58] ++ twoDigits c.seconds

/-- A count of at most two digits, without leading zeros (R85). -/
def countText (n : Nat) : Text := if n < 10 then [48 + n] else twoDigits n

def State.fullName (s : State) (id : Nat) : Text :=
  match s.placeOf id with
  | some p => p.full
  | none => []

/-- The short name of a place, or its full name where it has none (R77). -/
def State.shortName (s : State) (id : Nat) : Text :=
  match s.placeOf id with
  | some p => p.short.getD p.full
  | none => []

/-- A destination with each portion's place named by `name` (R77). -/
def destinationText (name : Nat → Text) (v : Service) : Text :=
  match v.rear with
  | none => name v.front.dest
  | some r => name v.front.dest ++ codes " & " ++ name r.dest

/-- The status text (R8). -/
def statusText (pmc : Nat) (v : Service) : Text :=
  match v.status pmc, v.state with
  | .cancelled, _ => codes "Cancelled"
  | .delayed, _ => codes "Delayed"
  | .due, _ => codes "Due"
  | .expected, .expected m _ => codes "Exp " ++ timeText m
  | .expected, _ => codes "On time"
  | .onTime, _ => codes "On time"

/-- Names joined into one text (R82). -/
def joinNames : List Text → Text
  | [] => []
  | [x] => x
  | [x, y] => x ++ codes " and " ++ y
  | x :: y :: z :: rest => x ++ codes ", " ++ joinNames (y :: z :: rest)

/-! ### CALLS (R80 to R86) -/

/-- The visible entries of a pattern (R81). -/
def visibleEntries (es : List Entry) : List Entry := es.filter fun e => e.mark == .calling

/-- The name of a visible entry, with its time where the option asks for it (R81). -/
def State.entryName (s : State) (callTimes : Bool) (e : Entry) : Text :=
  match callTimes, e.time with
  | true, some t => s.fullName e.place ++ codes " (" ++ timeText t ++ codes ")"
  | _, _ => s.fullName e.place

/-- The lead of a portion phrase (R85). -/
def portionLead (which : Text) : Option Nat → Text
  | none => which ++ codes " portion"
  | some n => which ++ codes " " ++ countText n ++ (if n = 1 then codes " coach" else codes " coaches")

/-- The front or rear phrase of a two-portion service (R85). -/
def State.portionPhrase (s : State) (callTimes : Bool) (which : Text) (p : Portion) (tail : List Entry) : Text :=
  portionLead which p.coaches ++ codes " for " ++ s.fullName p.dest ++
    match tail with
    | [] => codes ", non-stop."
    | es => codes ", calling at " ++ joinNames (es.map (s.entryName callTimes) ++ [s.fullName p.dest]) ++ codes "."

/-- The visible BOTH entries before the first FIRST or SECOND entry (R84). -/
def sharedRun (es : List Entry) : List Entry := es.takeWhile fun e => e.mask == .both

/-- The visible entries after the shared run (R84). -/
def afterShared (es : List Entry) : List Entry := es.dropWhile fun e => e.mask == .both

/-- The calling text of a service with the entries of its active pattern (R83, R84). -/
def State.callingText (s : State) (callTimes : Bool) (v : Service) (active : List Entry) : Text :=
  let es := visibleEntries active
  match v.rear with
  | none =>
    (match es with
    | [] => codes "Non-stop to " ++ s.fullName v.front.dest ++ codes "."
    | es =>
      codes "Calling at " ++ joinNames (es.map (s.entryName callTimes) ++ [s.fullName v.front.dest]) ++ codes ".")
  | some r =>
    let shared := sharedRun es
    let rest := afterShared es
    let tail1 := rest.filter fun e => e.mask == .both || e.mask == .first
    let tail2 := rest.filter fun e => e.mask == .both || e.mask == .second
    (match shared with
      | [] => []
      | es => codes "Calling at " ++ joinNames (es.map (s.entryName callTimes)) ++ codes ". ") ++
      s.portionPhrase callTimes (codes "Front") v.front tail1 ++ codes " " ++
      s.portionPhrase callTimes (codes "Rear") r tail2

/-- The CALLS record of the next service (R80, R86). -/
def State.callsContent (s : State) (callTimes : Bool) : LineContent :=
  match s.nextService with
  | none => .empty
  | some v =>
    match v.state with
    | .cancelled => .scrolling (v.reason.getD (codes "This service has been cancelled."))
    | _ =>
      match v.active with
      | none => .empty
      | some es =>
        .scrolling (s.callingText callTimes v es ++
          match v.reason with
          | some r => codes "  " ++ r
          | none => [])

/-! ### HEAD, FOLLOW, NOTICE (R78, R79, R87, R92) -/

def State.fieldedContent (s : State) (lead : Text) (v : Service) : LineContent :=
  .fielded lead (destinationText s.fullName v) (destinationText s.shortName v) (statusText s.clock.pmc v)

/-- The HEAD record (R78, R79). -/
def State.headContent (s : State) : LineContent :=
  match s.nextService with
  | none => .centred (codes "No services from this platform")
  | some v => s.fieldedContent (timeText v.sched) v

/-- The count of positions of a face's rotation (R88). -/
def State.rotationCount (s : State) (x : Face) : Nat := min x.record.depth (s.services.length - 1)

/-- The display position a face's rotation selects, if it has positions (R88). -/
def State.followPosition (s : State) (x : Face) : Option Nat :=
  if s.rotationCount x = 0 then none else some (2 + x.rotation.index)

/-- The ordinal of a display position from 2 to 7 (R87). -/
def ordinalText (p : Nat) : Text :=
  if p = 2 then codes "2nd" else if p = 3 then codes "3rd" else countText p ++ codes "th"

/-- The FOLLOW record (R87). -/
def State.followContent (s : State) (x : Face) : LineContent :=
  match s.followPosition x with
  | none => .empty
  | some p =>
    match s.serviceAt p with
    | none => .empty
    | some v => s.fieldedContent (ordinalText p ++ [32] ++ timeText v.sched) v

/-- The notice text of a face: its STATION_NOTICE entry's text, when it is not empty (R92). -/
def State.noticeText (s : State) (x : Face) : Option Text :=
  if x.holds .stationNotice then textOrAbsent s.texts.notice else none

/-- The clock text while the clock is VALID (R92). -/
def State.clockField (s : State) : Option Text := if s.clock.valid then some (clockText s.clock) else none

/-- The NOTICE record (R92). -/
def State.noticeContent (s : State) (x : Face) : LineContent :=
  match s.noticeText x, s.clockField with
  | none, none => .empty
  | n, c => .split n c

/-- The record of a role line (R74). -/
def State.roleContent (s : State) (x : Face) : Role → LineContent
  | .head => s.headContent
  | .calls => s.callsContent x.record.callTimes
  | .follow => s.followContent x
  | .notice => s.noticeContent x
  | .blank => .empty

/-! ### Override texts (R114 to R117) -/

/-- The words of a text: its runs of codes other than space (R115). -/
def wordsOf : Text → List Text
  | [] => []
  | c :: t =>
    if c = 32 then wordsOf t
    else
      match t with
      | [] => [[c]]
      | d :: _ =>
        if d = 32 then [c] :: wordsOf t
        else
          match wordsOf t with
          | w :: ws => (c :: w) :: ws
          | [] => [[c]]

/-- Greedy wrapping (R115, R116): `line` is the line being filled. `fuel` bounds the words placed, lines ended and words
split; twice the length of the text, and one, is enough. -/
def wrapWords (gs : List UserGlyph) (wl : Nat) : (fuel : Nat) → List Text → (line : Option Text) → List Text
  | 0, _, line => line.toList
  | _ + 1, [], line => line.toList
  | n + 1, w :: ws, none =>
    if measure gs w ≤ wl then wrapWords gs wl n ws (some w)
    else longestFit gs wl w :: wrapWords gs wl n (w.drop (longestFit gs wl w).length :: ws) none
  | n + 1, w :: ws, some l =>
    if measure gs l + 5 + measure gs w ≤ wl then wrapWords gs wl n ws (some (l ++ [32] ++ w))
    else l :: wrapWords gs wl n (w :: ws) none

/-- The wrapped lines of an override text (R115, R116). -/
def wrapText (gs : List UserGlyph) (wl : Nat) (t : Text) : List Text :=
  wrapWords gs wl (2 * t.length + 1) (wordsOf t) none

/-- The page count of `m` wrapped lines on a face of `l` lines (R117). -/
def pageCount (m l : Nat) : Nat := if m = 0 then 1 else (m + l - 1) / l

/-- The page count of a face's current board override (R117); 1 without one. -/
def State.pagesOf (s : State) (x : Face) : Nat :=
  match x.currentOverride with
  | none => 1
  | some src => pageCount (wrapText s.glyphs x.width (s.texts.get src)).length x.lineCount

/-- Line `j` of a face composed from an override's text (R114): a page index at or beyond the page count shows page 0. -/
def State.overrideContent (s : State) (x : Face) (src : Source) (j : LineId) : LineContent :=
  let ls := wrapText s.glyphs x.width (s.texts.get src)
  let page := if x.page < pageCount ls.length x.lineCount then x.page else 0
  match ls[page * x.lineCount + j.toNat]? with
  | some t => .centred t
  | none => .empty

/-- The record of a line, composed at this moment (R74, R114). -/
def State.lineContent (s : State) (x : Face) (j : LineId) : LineContent :=
  match x.currentOverride with
  | some src => s.overrideContent x src j
  | none => s.roleContent x (x.record.roles.get j)

/-! ### The shown service of a line (R75) -/

def State.shownService (s : State) (x : Face) : Role → Option Service
  | .head => s.nextService
  | .calls => s.nextService
  | .follow => (s.followPosition x).bind s.serviceAt
  | .notice => none
  | .blank => none

end Sys2Proof.Machine
end

