-- ==== Sys2Proof/Machine/Fit.lean ====
section
/-! DEFINITION. Placing a composed line in columns, its clipped mark, and the line image (R96 to R101, R103). -/

namespace Sys2Proof.Machine

open Sys2Proof

/-- A text drawn from a column, within the columns `lo` to `hi - 1` of the line. -/
structure Placed where
  col : Int
  text : Text
  lo : Nat
  hi : Nat
deriving DecidableEq, Repr

/-- The destination of a departure line within a budget, and whether it is clipped (R98, R99). -/
def fitDestination (gs : List UserGlyph) (budget : Nat) (full short : Text) : Text × Bool :=
  if measure gs full ≤ budget then (full, false)
  else if measure gs short ≤ budget then (short, false)
  else (longestFit gs budget short, true)

/-- The fields of a FIELDED record on a line `wl` columns wide, and its clipped mark (R97 to R99). -/
def placeFielded (gs : List UserGlyph) (wl : Nat) (lead full short status : Text) : List Placed × Bool :=
  let wt := measure gs lead
  let ws := measure gs status
  if wl < wt + 4 + ws then ([⟨0, lead, 0, wl⟩], true)
  else if wl < wt + ws + 8 then
    ([⟨0, lead, 0, wl⟩, ⟨(wl : Int) - ws, status, 0, wl⟩], !full.isEmpty)
  else
    let d := fitDestination gs (wl - wt - ws - 8) full short
    ([⟨0, lead, 0, wl⟩, ⟨(wt : Int) + 4, d.1, 0, wl⟩, ⟨(wl : Int) - ws, status, 0, wl⟩], d.2)

/-- The column a CENTRED text is drawn from (R100). -/
def centreColumn (wl w : Nat) : Int := ((wl : Int) - w) / 2

/-- The text of a scroll area `wa` columns wide (R103). -/
def placeScroll (text : Text) (wa : Nat) : Scroll → List Placed
  | .idle => []
  | .still _ _ => [⟨0, text, 0, wa⟩]
  | .pass _ _ n _ _ => [⟨(wa : Int) - n, text, 0, wa⟩]
  | .gap _ _ _ => []

/-- The width of the notice area of a SPLIT record with a notice (R101). -/
def noticeArea (gs : List UserGlyph) (wl : Nat) : Option Text → Nat
  | some c => wl - measure gs c - 4
  | none => wl

/-- The texts of a record with their columns, and the clipped mark the composition leaves (R96, R99). -/
def placeContent (gs : List UserGlyph) (wl : Nat) (sc : Scroll) : LineContent → List Placed × Bool
  | .fielded lead full short status => placeFielded gs wl lead full short status
  | .scrolling t => (placeScroll t wl sc, false)
  | .centred t => ([⟨centreColumn wl (measure gs t), t, 0, wl⟩], decide (wl < measure gs t))
  | .split (some n) (some c) =>
    (placeScroll n (noticeArea gs wl (some c)) sc ++ [⟨(wl : Int) - measure gs c, c, 0, wl⟩], false)
  | .split (some n) none => (placeScroll n wl sc, false)
  | .split none (some c) => ([⟨centreColumn wl (measure gs c), c, 0, wl⟩], false)
  | .split none none => ([], false)
  | .empty => ([], false)

/-- Whether a text drawn from column `col` lights column `c` of a row (R59). -/
def textLit (gs : List UserGlyph) (row : Nat) (c : Int) : (col : Int) → Text → Bool
  | _, [] => false
  | col, g :: t =>
    (decide (col ≤ c) && decide (c < col + advance gs g) && glyphPixel gs g row (c - col).toNat) ||
      textLit gs row c (col + advance gs g + 1) t

/-- Whether a placed text lights a pixel of the line. -/
def Placed.lit (gs : List UserGlyph) (row c : Nat) (p : Placed) : Bool :=
  decide (p.lo ≤ c) && decide (c < p.hi) && textLit gs row c p.col p.text

/-- The line image of the texts placed (R96): every column no drawn glyph lights is unlit. -/
def drawImage (gs : List UserGlyph) (wl : Nat) (ps : List Placed) : Image :=
  (List.range 16).map fun row => (List.range wl).map fun c => ps.any (Placed.lit gs row c)

/-- The texts of line `j` of a face as a composition at this moment places them, with the clipped mark. -/
def State.composeLine (s : State) (x : Face) (j : LineId) : List Placed × Bool :=
  placeContent s.glyphs x.width (x.lines.get j).scroll (s.lineContent x j)

/-- The image of line `j` of a face composed at this moment (R139). -/
def State.lineImage (s : State) (x : Face) (j : LineId) : Image :=
  drawImage s.glyphs x.width (s.composeLine x j).1

end Sys2Proof.Machine
end

