-- ==== Sys2Proof/Machine/Scroll.lean ====
section
/-! DEFINITION. Scroll states: their measure, start, step waits, passes and gaps (R102 to R113), and the follow rotation
(R88 to R91). -/

namespace Sys2Proof.Machine

open Sys2Proof

/-- The text of a line's scroll area and the area's width, as a composition at this moment would take them; none where
the face is not LIVE, the line does not exist, its role has no area or the area has no text (R102). -/
def State.areaText (s : State) (x : Face) (j : LineId) : Option (Text × Nat) :=
  if x.live && x.hasLine j then
    match x.record.roles.get j with
    | .calls =>
      (match s.callsContent x.record.callTimes with
      | .scrolling t => some (t, x.width)
      | _ => none)
    | .notice => (s.noticeText x).map fun t => (t, noticeArea s.glyphs x.width s.clockField)
    | _ => none
  else none

/-- The measures W and Wa of a line's scroll area (R102). -/
def State.measureArea (s : State) (x : Face) (j : LineId) : Option (Nat × Nat) :=
  (s.areaText x j).map fun p => (measure s.glyphs p.1, p.2)

/-- The step interval K of a scroll speed, in pacing periods (R105). -/
def stepInterval (speed : Nat) : Nat := (8000 + speed) / (2 * speed)

/-- The wait of step `i` of a pass, in pacing periods (R106). -/
def stepWait (k i : Nat) : Nat := if k % 2 = 0 then k / 2 else if i % 2 = 1 then (k + 1) / 2 else (k - 1) / 2

/-- The beginning of a pass (R104, R108). -/
def newPass (w wa k : Nat) : Scroll := .pass w wa 0 k (stepWait k 1)

/-- The start of an area from its measures (R104). -/
def startScroll (k : Nat) : Option (Nat × Nat) → Scroll
  | none => .idle
  | some (w, wa) => if w ≤ wa then .still w wa else newPass w wa k

/-- The entry to GAP: with a pass gap of 0 the next pass begins at once (R108). -/
def enterGap (passGap w wa k : Nat) : Scroll := if passGap = 0 then newPass w wa k else .gap w wa (2 * passGap)

/-- A text changed hand-off (R111). -/
def changedScroll (passGap k : Nat) : Scroll → Option (Nat × Nat) → Scroll
  | _, none => .idle
  | .idle, m => startScroll k m
  | .still _ _, m => startScroll k m
  | .pass _ _ n k₀ wait, some (w, wa) =>
    if w ≤ wa then .still w wa
    else if n < w + wa then .pass w wa n k₀ wait
    else enterGap passGap w wa k
  | .gap _ _ g, some (w, wa) => if w ≤ wa then .still w wa else .gap w wa g

/-- The expiry of the step timer (R107); nothing in any phase but PASS, where alone the timer runs. -/
def stepScroll (passGap k : Nat) : Scroll → Scroll
  | .pass w wa n k₀ _ =>
    if n + 1 < w + wa then .pass w wa (n + 1) k₀ (stepWait k₀ (n + 2)) else enterGap passGap w wa k
  | sc => sc

def Scroll.inPass : Scroll → Bool
  | .pass .. => true
  | _ => false

/-- The expiry of the gap timer (R108); nothing in any phase but GAP, where alone the timer runs. -/
def gapScroll (k : Nat) : Scroll → Scroll
  | .gap w wa _ => newPass w wa k
  | sc => sc

/-- Act on the scroll states that `which` picks out. -/
def Face.modScrolls (x : Face) (which : LineId → Bool) (g : LineId → Scroll → Scroll) : Face :=
  { x with lines := x.lines.mapIdx fun j l => if which j then { l with scroll := g j l.scroll } else l }

/-- Start the areas that `which` picks out on a face (R104). -/
def State.startAreas (s : State) (which : FaceId → Face → LineId → Bool) : State :=
  s.mapFaces fun f x => x.modScrolls (which f x) fun j _ => startScroll (stepInterval x.record.speed) (s.measureArea x j)

/-- Hand "text changed" to the areas that `which` picks out (R111). -/
def State.handText (s : State) (which : FaceId → Face → LineId → Bool) : State :=
  s.mapFaces fun f x =>
    x.modScrolls (which f x) fun j sc =>
      changedScroll s.timing.passGap (stepInterval x.record.speed) sc (s.measureArea x j)

/-! ### The follow rotation -/

/-- A rotation at index 0, its timer started for the full dwell when it has positions (R90, R91). -/
def startRotation (dwell count : Nat) : Rotation := { index := 0, dwell := if count = 0 then none else some dwell }

/-- What an order change does to a rotation (R90). -/
def orderRotation (live : Bool) (dwell count : Nat) (r : Rotation) : Rotation :=
  match r.dwell with
  | some _ =>
    if count = 0 then { index := 0, dwell := none }
    else if r.index < count then r
    else startRotation dwell count
  | none => if live then startRotation dwell count else r

/-- Each face's rotation after an order change (R90). -/
def State.rotateForOrder (s : State) : State :=
  s.mapFaces fun _ x =>
    { x with rotation := orderRotation x.live s.timing.followDwell (s.rotationCount x) x.rotation }

/-- The expiry of the follow dwell timer (R89). -/
def dwellRotation (dwell count : Nat) (r : Rotation) : Rotation :=
  { index := if r.index + 1 < count then r.index + 1 else 0, dwell := some dwell }

end Sys2Proof.Machine
end

