-- ==== Sys2Proof/Machine/Flags.lean ====
section
/-! DEFINITION. The holds-current flags and the staleness map (R125 to R128, R141): which lines each cause reaches, what a
mark does to them and to the render in flight, and the report of a change to the composer (R94). -/

namespace Sys2Proof.Machine

open Sys2Proof

/-- The causes of R127. Services are named by their slot. -/
inductive Change where
  | order (nextChanged : Bool)
  | service (slot : Nat)
  | close (slot : Nat)
  | strikeMarks (slot : Nat)
  | place (id : Nat)
  | glyph
  | scrollStep (f : FaceId) (j : LineId)
  | clockSecond
  | rotation (f : FaceId)
  | notice (f : FaceId)
  | override (f : FaceId)
  | face (f : FaceId)
  | restartContent
deriving DecidableEq, Repr

/-- Whether a cause changes only role content, and so does not reach a face with a current board override (R128). -/
def Change.roleOnly : Change → Bool
  | .order _ => true
  | .service _ => true
  | .close _ => true
  | .strikeMarks _ => true
  | .place _ => true
  | .glyph => false
  | .scrollStep _ _ => true
  | .clockSecond => true
  | .rotation _ => true
  | .notice _ => true
  | .override _ => false
  | .face _ => false
  | .restartContent => false

/-- Whether the shown service of a role is the one in a slot (R75). -/
def State.shows (s : State) (x : Face) (r : Role) (slot : Nat) : Bool :=
  match s.shownService x r with
  | some v => v.slot == slot
  | none => false

/-- Whether the shown service of a role names a place: as a destination, or on a CALLS line in its active pattern (R127). -/
def State.showsPlace (s : State) (x : Face) (r : Role) (id : Nat) : Bool :=
  match s.shownService x r with
  | some v => v.dests.contains id || (r == .calls && v.activeEntries.any fun e => e.place == id)
  | none => false

/-- The staleness map by role: whether a cause reaches line `j`, of role `r`, of face `f` (R127). -/
def State.reachesRole (s : State) (c : Change) (f : FaceId) (x : Face) (j : LineId) (r : Role) : Bool :=
  match c with
  | .order next => r == .follow || (next && (r == .head || r == .calls))
  | .service slot => (r == .head || r == .calls || r == .follow) && s.shows x r slot
  | .close slot => r == .calls && s.shows x r slot
  | .strikeMarks slot => r == .calls && s.shows x r slot
  | .place id => (r == .head || r == .calls || r == .follow) && s.showsPlace x r id
  | .glyph => true
  | .scrollStep g i => f == g && j == i
  | .clockSecond => r == .notice
  | .rotation g => f == g && r == .follow
  | .notice g => f == g && r == .notice
  | .override g => f == g
  | .face g => f == g
  | .restartContent => true

/-- Whether a cause marks line `j` of face `f` stale (R127, R128): an existing line of a LIVE face, reached by the map, and
not hidden from a role cause by a current board override. -/
def State.marks (s : State) (c : Change) (f : FaceId) (x : Face) (j : LineId) : Bool :=
  x.live && x.hasLine j && !(c.roleOnly && x.currentOverride.isSome) &&
    s.reachesRole c f x j (x.record.roles.get j)

/-- The sent lines of a walking render of face `f` that are marked become overtaken (R141). -/
def Engine.overtake (e : Engine) (marked : FaceId → LineId → Bool) : Engine :=
  match e.render with
  | some r =>
    (match r.phase with
    | .walking =>
      { e with
        render :=
          some { r with overtaken := Quad.ofFn fun j => r.overtaken.get j || (r.sent.get j && marked r.face j) } }
    | .flipping => e)
  | none => e

/-- Mark stale the lines a cause reaches (R125, R141). -/
def State.markStale (s : State) (c : Change) : State :=
  { s with
    faces := s.faces.mapIdx fun f x =>
      { x with lines := x.lines.mapIdx fun j l => if s.marks c f x j then l.stale else l }
    engine := s.engine.overtake fun f j => s.marks c f (s.face f) j }

/-- The areas a cause starts: CALLS areas when the next service changed (R94, R104). -/
def Change.startsArea (c : Change) (r : Role) : Bool :=
  match c with
  | .order next => next && r == .calls
  | _ => false

/-- The areas a cause hands "text changed" to (R94, R111, R112). -/
def State.handsText (s : State) (c : Change) (f : FaceId) (x : Face) (j : LineId) : Bool :=
  let r := x.record.roles.get j
  match c with
  | .service _ => r == .calls && s.reachesRole c f x j r
  | .close _ => s.reachesRole c f x j r
  | .strikeMarks _ => s.reachesRole c f x j r
  | .place _ => r == .calls && s.reachesRole c f x j r
  | .glyph => true
  | .clockSecond => r == .notice
  | .notice g => f == g && r == .notice
  | _ => false

/-- The hand-offs of a cause to the scroll states, made on every LIVE face whether or not an override stands before its
role lines (R94, R104, R128). -/
def State.handOff (s : State) (c : Change) : State :=
  (s.startAreas fun _ x j => c.startsArea (x.record.roles.get j)).handText fun f x j => s.handsText c f x j

/-- A report to the composer (R7, R94): the rotations act on an order change, the areas take their hand-off, and the lines
the cause reaches are marked stale. -/
def State.report (s : State) (c : Change) : State :=
  let s₁ := match c with
    | .order _ => s.rotateForOrder
    | _ => s
  (s₁.handOff c).markStale c

/-- Several reports in turn. -/
def State.reports (s : State) (cs : List Change) : State := cs.foldl State.report s

end Sys2Proof.Machine
end

