-- ==== Sys2Proof/Machine/Engine.lean ====
section
/-! DEFINITION. The render engine and the panel link transmitter: render requests, arbitration, grant and release, the end of
an event (R129 to R149). -/

namespace Sys2Proof.Machine

open Sys2Proof

/-- Whether a face's frame is wanted (R129). -/
def Face.wanted (x : Face) : Bool :=
  x.live && Four.all.any fun j => x.hasLine j && !(x.lines.get j).current x.record.shown

/-- Every face in request state NONE whose frame is wanted raises a render request (R129, R130). -/
def State.raiseRequests (s : State) : State :=
  s.mapFaces fun _ x =>
    if x.record.request = .none ∧ x.wanted then { x with record := { x.record with request := .waiting } } else x

/-- Whether the waiting face `f` ranks before the waiting face `g` (R136, keys 1 to 4). -/
def State.ranksBefore (s : State) (f g : FaceId) : Bool :=
  let lf := (s.face f).requestLevel
  let lg := (s.face g).requestLevel
  decide (lg < lf) ||
    (lf == lg &&
      match s.engine.history.idxOf? f, s.engine.history.idxOf? g with
      | none, some _ => true
      | some _, none => false
      | some i, some j => decide (i < j)
      | none, none => decide ((s.face g).record.panelId < (s.face f).record.panelId))

/-- The faces whose request waits. -/
def State.waitingFaces (s : State) : List FaceId := Four.all.filter fun f => (s.face f).record.request == .waiting

/-- The first of two waiting faces by rank. -/
def State.better (s : State) (best : Option FaceId) (f : FaceId) : Option FaceId :=
  match best with
  | none => some f
  | some g => if s.ranksBefore f g then some f else some g

/-- The waiting face that ranks first (R136). -/
def State.bestWaiting (s : State) : Option FaceId := s.waitingFaces.foldl s.better none

/-- Grant a face (R137): the record is created, the face moves to the end of the history, and the engine asks for the
transmitter. -/
def State.grant (s : State) (f : FaceId) : State :=
  let s₁ := s.modFace f fun x => { x with record := { x.record with request := .granted } }
  { s₁ with
      engine :=
        { render :=
            some
              { face := f
                hidden := (s.face f).record.shown.other
                phase := .walking
                walk := 0
                inFlight := none
                sent := noLines
                overtaken := noLines
                answer := none }
          history := (s.engine.history.filter fun g => g ≠ f) ++ [f] } }.engineAsks

/-- While the grant state is FREE, grant the waiting face that ranks first (R136). -/
def State.grantNext (s : State) : State :=
  match s.engine.render, s.bestWaiting with
  | none, some f => s.grant f
  | _, _ => s

/-- Whether a waiting supervisor message is held back: its face awaits a PANEL_STATE (R171). -/
def State.heldBack (s : State) (m : SupMsg) : Bool := !m.tail && (s.face m.face).panel.awaiting.isSome

/-- The first thing of a list that `p` picks out, and the list without it. -/
def splitFirst {α : Type} (p : α → Bool) : List α → Option (α × List α)
  | [] => none
  | a :: as =>
    if p a then some (a, as)
    else
      match splitFirst p as with
      | some (b, rest) => some (b, a :: rest)
      | none => none

/-- A supervisor message as it is sent: a LEVEL carries the present level of that moment (R171, R177). -/
def State.supMessage (s : State) (m : SupMsg) : PanelMsg :=
  match m.kind with
  | .wake => .wake m.panel
  | .poll => .poll m.panel
  | .level => .level m.panel (s.face m.face).bright.present
  | .dark => .dark m.panel
  | .sleep => .sleep m.panel

def SupMsg.owner (m : SupMsg) : MsgOwner := if m.tail then .tail m.face else .face m.face

/-- While the transmitter is FREE, give it to a waiting message: the supervisor's first in the order they were asked for,
and otherwise to the engine (R149, R171). -/
def State.giveTransmitter (s : State) : State :=
  match s.link.tx with
  | .free =>
    (match splitFirst (fun m => !s.heldBack m) s.link.waiting with
    | some (m, rest) =>
      { s with link := { s.link with tx := .sending (s.supMessage m) (some m.owner), waiting := rest } }
    | none =>
      if s.link.engineWaits then { s with link := { s.link with tx := .engineTurn, engineWaits := false } } else s)
  | _ => s

/-- The end of an event: frames are judged and requests raised, a grant is chosen while the engine is FREE, and a FREE
transmitter is given to a waiting message (R129, R136, R149). DEDUCED: once, at the end of the event
(notes/assumptions/5.md). -/
def State.settle (s : State) : State := s.raiseRequests.grantNext.giveTransmitter

/-- What a release leaves of the transmitter: a turn not yet used is given up, a message under way is sent to its end
without its owner (R142, R145, R149). -/
def Transmitter.releaseEngine : Transmitter → Transmitter
  | .engineTurn => .free
  | t => t.disown fun _ o => o == .engine

/-- Release the granted face: the render record goes, the face's request state is NONE, a message of the render that waits
is withdrawn (R145, R147, R149). -/
def State.release (s : State) : State :=
  match s.engine.render with
  | none => s
  | some r =>
    let s₁ := s.modFace r.face fun x => { x with record := { x.record with request := .none } }
    { s₁ with
      engine := { s.engine with render := none }
      link := { s.link with tx := s.link.tx.releaseEngine, engineWaits := false } }

/-- Whether the engine is HELD by a face. -/
def State.grants (s : State) (f : FaceId) : Bool :=
  match s.engine.render with
  | some r => r.face == f
  | none => false

/-- Whether a FLIP of the face awaits its answer (R148). -/
def State.awaitsFlip (s : State) (f : FaceId) : Bool :=
  match s.engine.render with
  | some r => r.face == f && r.phase == .flipping
  | none => false

/-- Abandon the render (R143): the hidden flag of each overtaken line is cleared, and the face is released. -/
def State.abandon (s : State) : State :=
  match s.engine.render with
  | none => s
  | some r =>
    (s.modFace r.face fun x =>
      { x with
        lines := x.lines.mapIdx fun j l => if r.overtaken.get j then l.setCurrent r.hidden false else l }).release

/-- Adopt the buffer a panel shows against the record's: every flag of both buffers is cleared (R144, R148). -/
def State.mismatch (s : State) (f : FaceId) (b : Buf) : State :=
  s.modFace f fun x => { x with record := { x.record with shown := b }, lines := x.lines.map Line.stale }

/-- Whether a shown buffer reported by a face, whose FLIP awaits no answer, differs from the record's (R148). -/
def State.strayMatters (s : State) (f : FaceId) (b : Buf) : Bool := (s.face f).live && !((s.face f).record.shown == b)

/-- A shown buffer reported by a face whose FLIP awaits no answer (R148). -/
def State.strayShown (s : State) (f : FaceId) (b : Buf) : State :=
  if s.strayMatters f b then (if s.grants f then (s.mismatch f b).abandon else s.mismatch f b) else s

end Sys2Proof.Machine
end

