-- ==== Sys2Proof/Machine/Brightness.lean ====
section
/-! DEFINITION. Brightness: the effective target, the ramp, LEVEL_REACHED and the curve (R176 to R180). -/

namespace Sys2Proof.Machine

open Sys2Proof

/-- The effective target (R176). -/
def Brightness.effective (b : Brightness) : Nat :=
  if b.level3 ∧ b.target < Config.levelFloor then Config.levelFloor else b.target

/-- Change brightness fields; a change of the effective target of a LIVE face starts a stopped ramp timer (R176). -/
def Face.modBright (x : Face) (rampStep : Nat) (g : Brightness → Brightness) : Face :=
  let b := g x.bright
  if x.live ∧ b.effective ≠ x.bright.effective ∧ b.ramp = none then { x with bright := { b with ramp := some rampStep } }
  else { x with bright := b }

def State.modBright (s : State) (f : FaceId) (g : Brightness → Brightness) : State :=
  s.modFace f fun x => x.modBright s.timing.rampStep g

/-- Judge a pending report (R178): a LIVE face whose present level is the pending one posts LEVEL_REACHED. -/
def State.judgeReport (s : State) (f : FaceId) : State :=
  let x := s.face f
  if x.live ∧ x.bright.report = some x.bright.present then
    (s.modFace f fun x => { x with bright := { x.bright with report := none } }).post
      (.levelReached f x.bright.present)
  else s

/-- The interpolated part between two points, rounded to the nearest with halves up, added to the lower level (R179). -/
def interpolate (p q : CurvePoint) (x : Nat) : Nat :=
  let da : Int := (q.ambient : Int) - p.ambient
  let db : Int := (q.level : Int) - p.level
  ((p.level : Int) + (2 * db * ((x : Int) - p.ambient) + da) / (2 * da)).toNat

/-- The curve value of a reading at or above the first point (R179). -/
def curveFrom (x : Nat) : List CurvePoint → Nat
  | [] => 0
  | [p] => p.level
  | p :: q :: rest => if x < q.ambient then interpolate p q x else curveFrom x (q :: rest)

/-- The curve value of an ambient reading (R179). -/
def curveValue (curve : List CurvePoint) (x : Nat) : Nat :=
  match curve with
  | [] => 0
  | p :: rest => if x < p.ambient then p.level else curveFrom x (p :: rest)

/-- The target of a face in AUTO from its reading, without hysteresis (R178, R179); kept where it holds none. -/
def autoTarget (curve : List CurvePoint) (ambient : Option Nat) (target : Nat) : Nat :=
  match ambient with
  | some x => curveValue curve x
  | none => target

/-- The target judged again from a new reading, with the hysteresis of R180. -/
def hysteresis (v target : Nat) : Nat := if target + 2 ≤ v ∨ v + 2 ≤ target then v else target

/-- One level toward the effective target (R177). -/
def rampLevel (present effective : Nat) : Nat :=
  if present < effective then present + 1 else if effective < present then present - 1 else present

end Sys2Proof.Machine
end

