-- ==== Sys2Proof/Machine/Overrides.lean ====
section
/-! DEFINITION. The override manager: raising and removing entries, the reports of an event, paging, feed loss and the
approach inputs (R151 to R163). -/

namespace Sys2Proof.Machine

open Sys2Proof

/-- Put a newly raised entry at the front of its level (R152). -/
def insertEntry (e : OverrideEntry) : List OverrideEntry → List OverrideEntry
  | [] => [e]
  | d :: ds => if d.source.level ≤ e.source.level then e :: d :: ds else d :: insertEntry e ds

def removeSource (src : Source) (es : List OverrideEntry) : List OverrideEntry := es.filter fun e => e.source ≠ src

/-- Raise or re-raise a source on the faces of a mask, all with one raise stamp (R152). DEDUCED: stamps have no bound
(notes/assumptions/21.md). -/
def State.raiseOn (s : State) (src : Source) (mask : Quad Bool) : State :=
  let s₁ := s.mapFaces fun f x =>
    if mask.get f then { x with overrides := insertEntry ⟨src, s.nextStamp⟩ (removeSource src x.overrides) } else x
  { s₁ with nextStamp := s.nextStamp + 1 }

/-- Remove a source's entries from the faces of a mask. -/
def State.removeOn (s : State) (src : Source) (mask : Quad Bool) : State :=
  s.mapFaces fun f x => if mask.get f then { x with overrides := removeSource src x.overrides } else x

def State.setText (s : State) (src : Source) (t : Text) : State := { s with texts := s.texts.set src t }

/-- Restart a face's page index (R154). -/
def Face.restartPage (x : Face) (dwell : Nat) : Face :=
  { x with page := 0, pageTimer := if x.live && x.currentOverride.isSome then some dwell else none }

def State.restartPage (s : State) (f : FaceId) : State := s.modFace f fun x => x.restartPage s.timing.pageDwell

/-- The current board override of a face with its text. -/
def State.shownOverride (s : State) (f : FaceId) : Option (Source × Text) :=
  (s.face f).currentOverride.map fun src => (src, s.texts.get src)

/-- The notice of a face: the STATION_NOTICE text while the face holds its entry (R153). -/
def State.heldNotice (s : State) (f : FaceId) : Option Text :=
  if (s.face f).holds .stationNotice then some s.texts.notice else none

/-- Whether the current board override of a face is of level 3 (R153). -/
def State.level3 (s : State) (f : FaceId) : Bool := (s.face f).requestLevel == 3

/-- The reports an event makes for one face, against the state before it (R153). -/
def State.overrideReport (before : State) (s : State) (f : FaceId) : State :=
  let s₁ := if s.shownOverride f ≠ before.shownOverride f then (s.restartPage f).report (.override f) else s
  let s₂ := if s.heldNotice f ≠ before.heldNotice f then s₁.report (.notice f) else s₁
  if s.level3 f ≠ before.level3 f then s₂.modBright f fun b => { b with level3 := s.level3 f } else s₂

/-- The reports an event makes for every face (R153), face by face (DEDUCED, notes/assumptions/26.md). -/
def State.overrideReports (s before : State) : State := Four.all.foldl (State.overrideReport before) s

/-! ### Feed loss (R155) -/

/-- Whether a face holds a FEED_LOST entry. -/
def State.feedHeld (s : State) : Bool := Four.all.any fun f => (s.face f).holds .feedLost

/-- A good frame ends feed loss (R155). Its event goes on with the request (R187), so the reports of the removal are made at
the end of the frame (R153). -/
def State.endFeedLoss (s : State) : State :=
  if s.feedHeld then (s.removeOn .feedLost (Quad.const true)).post (.feed true) else s

/-- Feed loss is raised on all four faces (R155). -/
def State.loseFeed (s : State) : State :=
  ((s.raiseOn .feedLost (Quad.const true)).post (.feed false)).overrideReports s

/-! ### Approach inputs (R159 to R163) -/

def sourceOf : InputId → Source
  | .a => .approachA
  | .b => .approachB

def State.modInput (s : State) (i : InputId) (g : Approach → Approach) : State :=
  { s with approach := s.approach.set i (g (s.approach.get i)) }

def State.postApproach (s : State) (i : InputId) (e : ApproachEvent) : State :=
  s.post (.approach i e (s.approach.get i).mask)

/-- Raise an input's entry on the faces of its mask, without a notice. -/
def State.raiseInput (s : State) (i : InputId) : State := s.raiseOn (sourceOf i) (s.approach.get i).mask

/-- End an input's entry: it is removed from every face, its timers stop, and ENDED is posted (R160 to R162). -/
def State.endInput (s : State) (i : InputId) (why : ApproachReason) : State :=
  ((s.removeOn (sourceOf i) (Quad.const true)).modInput i fun a =>
    { a with state := .clear, holdTimer := none, durationTimer := none }).postApproach i (.ended why)

/-- A falling or rising edge in LOW (R161). -/
def State.lowEdge (s : State) (i : InputId) (rising : Bool) : State :=
  let a := s.approach.get i
  match a.state, rising with
  | .clear, false => ((s.raiseInput i).modInput i fun a => { a with state := .active }).postApproach i .raised
  | .clear, true => s
  | .active, true =>
    if a.hold = 0 then s.endInput i .holdExpired
    else s.modInput i fun a => { a with state := .holding, holdTimer := some a.hold }
  | .active, false => s
  | .holding, false => s.modInput i fun a => { a with state := .active, holdTimer := none }
  | .holding, true => s

/-- A qualifying edge in an edge mode (R162): the entry is raised, or renewed. -/
def State.qualifyingEdge (s : State) (i : InputId) : State :=
  match (s.approach.get i).state with
  | .clear =>
    ((s.raiseInput i).modInput i fun a =>
      { a with state := .active, durationTimer := some a.duration }).postApproach i .raised
  | _ => s.modInput i fun a => { a with durationTimer := some a.duration }

/-- An edge handed to the input's mode (R159, R161, R162). -/
def State.edge (s : State) (i : InputId) (rising : Bool) : State :=
  match (s.approach.get i).sensitivity with
  | .off => s
  | .low => s.lowEdge i rising
  | .rising => if rising then s.qualifyingEdge i else s
  | .falling => if rising then s else s.qualifyingEdge i
  | .both => s.qualifyingEdge i

end Sys2Proof.Machine
end

