-- ==== Sys2Proof/Machine/Panels.lean ====
section
/-! DEFINITION. The panel supervisor: panel state and notices, wake, leaving LIVE, retire, shutdown tails, becoming LIVE
(R165 to R175, R182). -/

namespace Sys2Proof.Machine

open Sys2Proof

def State.modPanel (s : State) (f : FaceId) (g : Panel → Panel) : State :=
  s.modFace f fun x => { x with panel := g x.panel }

/-- A change of panel state and cause, which posts FACE_STATE (R165). -/
def State.setMode (s : State) (f : FaceId) (mode : PanelMode) (cause : Cause) : State :=
  (s.modPanel f fun p => { p with mode := mode, cause := cause }).post (.faceState f mode cause)

/-- Whether a waiting message is the face's own, not its tail's. -/
def SupMsg.ofFace (m : SupMsg) (f : FaceId) : Bool := m.face == f && !m.tail

/-- Withdraw every waiting supervisor message of the face, and give up what is under way (R166). -/
def State.dropMessages (s : State) (f : FaceId) : State :=
  (s.withdraw fun m => m.ofFace f).disown fun _ o => o == .face f

/-- End a shutdown tail: its waiting messages are withdrawn and its timer stops (R182). -/
def State.endTail (s : State) (f : FaceId) : State :=
  ((s.withdraw fun m => m.face == f && m.tail).disown fun _ o => o == .tail f).modPanel f fun p => { p with tail := none }

/-- Start a wake (R168). A tail of the face ends, the output staying ON (R182). -/
def State.startWake (s : State) (f : FaceId) : State :=
  let s₁ := (s.endTail f).modPanel f fun p => { p with power := true, step := some .settling, settle := some 50 }
  s₁.setMode f .waking (s.face f).panel.cause

/-- The composer, face table, override manager and brightness fields of a face that leaves LIVE (R91, R113, R125, R132,
R154, R174, R177). -/
def Face.darken (x : Face) : Face :=
  { x with
    record := { x.record with request := .none }
    lines := x.lines.map fun _ => Line.initial
    rotation := { index := 0, dwell := none }
    page := 0
    pageTimer := none
    panel := { x.panel with poll := none, awaiting := none, ambient := none }
    bright := { x.bright with present := 0, ramp := none } }

/-- Take a LIVE face out of LIVE before its new state is set (R147, R174, R175): its render ends and the engine is
released, its POLL or LEVEL is withdrawn or given up, and its flags, rotation, areas, pages and ramp stop. -/
def State.leaveLive (s : State) (f : FaceId) : State :=
  let s₁ := if s.grants f then s.release else s
  ((s₁.withdraw fun m => m.ofFace f && m.kind.awaitsState).disown fun m o => o == .face f && m.awaitsState).modFace f
    Face.darken

/-- Start a retire of a LIVE face (R174). A face not LIVE is left as it is (R173). -/
def State.retire (s : State) (f : FaceId) (cause : Cause) : State :=
  if (s.face f).live then
    let panel := (s.face f).record.panelId
    (((s.leaveLive f).setMode f .retiring cause).ask ⟨f, false, panel, .dark⟩).ask ⟨f, false, panel, .sleep⟩
  else s

/-- Every timer of R165 stopped, with the wake step and the awaited answer given up. -/
def Panel.stopTimers (p : Panel) : Panel :=
  { p with step := none, settle := none, wake := none, retireDelay := none, poll := none, awaiting := none }

/-- Cut the supply of a face whose sense input fell (R166). -/
def State.removePanel (s : State) (f : FaceId) : State :=
  let s₁ := if (s.face f).live then s.leaveLive f else s
  let s₂ := (s₁.dropMessages f).modPanel f fun p => { p.stopTimers with power := false }
  s₂.setMode f .absent .removed

/-- Make a waking face LIVE with the size its READY gives (R169, steps 1 to 6). DEDUCED: a WAKE that still waits is
withdrawn, and the ramp timer starts whatever the effective target (notes/assumptions/13.md, 17.md). -/
def State.becomeLive (s : State) (f : FaceId) (g : Geometry) : State :=
  let s₁ := (s.dropMessages f).modFace f fun x =>
    { x with
      record := { x.record with geometry := some g, shown := .b0 }
      lines := x.lines.map fun _ => Line.initial
      panel :=
        { x.panel with
          mode := .live, cause := .none, step := none, settle := none, wake := none, ambient := none, awaiting := none
          poll := some 1000 }
      bright := { x.bright with present := 0, ramp := some s.timing.rampStep } }
  let s₂ := s₁.modFace f fun x =>
    { x with rotation := startRotation s.timing.followDwell (s₁.rotationCount x) }.restartPage s.timing.pageDwell
  let s₃ := s₂.startAreas fun h _ _ => h == f
  (s₃.judgeReport f).post (.faceState f .live .none)

/-- The state a face takes at the end of its retire (R174). -/
def retiredMode : Cause → PanelMode
  | .requested => .off
  | _ => .faulted

/-- Whether a message of a kind waits for a face. -/
def State.messageWaits (s : State) (f : FaceId) (k : SupKind) : Bool :=
  s.link.waiting.any fun m => m.ofFace f && m.kind == k

/-- Ask for a POLL or LEVEL unless one of the face waits already (R171, R172). -/
def State.askOnce (s : State) (f : FaceId) (k : SupKind) : State :=
  if s.messageWaits f k then s else s.ask ⟨f, false, (s.face f).record.panelId, k⟩

end Sys2Proof.Machine
end

