-- ==== Sys2Proof/Machine/Port.lean ====
section
/-! DEFINITION. The station link port: what a good frame does before and after its request, replies and their bytes, the
silence timer (R185 to R192, R198). -/

namespace Sys2Proof.Machine

open Sys2Proof

/-- What a block answers to a request: a result code and the fields that follow the header (R189). -/
structure Answer where
  result : Result
  fields : ReplyFields
deriving DecidableEq, Repr

/-- Whether the result says the request was taken (R2). -/
def Result.taken : Result → Bool
  | .done => true
  | .accepted => true
  | _ => false

/-- A request that is refused leaves the state as it is (R2). -/
def refuse (s : State) (r : Result) : State × Answer := (s, ⟨r, .none⟩)

def done (s : State) : State × Answer := (s, ⟨.done, .none⟩)

def doneWith (s : State) (fields : ReplyFields) : State × Answer := (s, ⟨.done, fields⟩)

/-- The fields of a body handed to the block; a malformed body is refused with FORMAT (R189). -/
def onBody {α : Type} (s : State) (body : Body α) (act : α → State × Answer) : State × Answer :=
  match body with
  | .fields a => act a
  | .malformed => refuse s .format

/-- Restart the silence timer for the full limit (R192). -/
def State.restartSilence (s : State) : State :=
  { s with port := { s.port with silence := .running s.timing.silenceLimit } }

/-- The first two steps of a good frame (R187): feed loss ends, the silence timer restarts. The receiver is back in IDLE. -/
def State.beginGoodFrame (s : State) : State := s.endFeedLoss.restartSilence.setReceiver .idle

/-- A reply becomes pending (R187, R189): its pending count is the number of notices held after the request's own effects. -/
def State.pendReply (s : State) (kind : Nat) (a : Answer) : State :=
  { s with port := { s.port with reply := some ⟨kind, a.result, s.notices.length, a.fields⟩ } }

/-- Whether a request frame with these address bits concerns the part (R183, R185). -/
def State.concerns (s : State) (addr : Nat) : Bool := addr == 0 || (s.port.address != 0 && addr == s.port.address)

/-- A checked frame that ends while a reply is pending (R188): it is counted and discarded. -/
def State.countOverrun (s : State) : State :=
  (s.setCounters { s.port.counters with overrun := bump s.port.counters.overrun }).setReceiver .idle

/-- What becomes of a whole frame that carries a request and passes its check: none where it is not a good frame, with the
state it leaves. In HUNT the receiver takes no frame (R185); a frame for another controller is discarded (R185); one that
ends while a reply is pending is an overrun (R188). DEDUCED: frames are taken whole (notes/assumptions/8.md, 10.md). -/
def State.judgeFrame (s : State) (addr : Nat) : Option State :=
  if s.port.receiver = .hunt then some s
  else if !s.concerns addr then some (s.setReceiver .idle)
  else if s.port.reply.isSome then some s.countOverrun
  else none

/-- The end of a good frame's event (R187): the override reports of all that it did, against the state on its arrival
(R153); then frames are judged and grants chosen where the frame ended feed loss or its request was taken. -/
def State.closeFrame (arrival s : State) (taken : Bool) : State :=
  let s₁ := s.overrideReports arrival
  if arrival.feedHeld || taken then s₁.settle else s₁

/-- The end of a good frame's event with the answer of its request: the reply becomes pending, but for a broadcast (R187,
R190). -/
def State.finish (arrival : State) (kind addr : Nat) (r : State × Answer) : State :=
  let s₁ := arrival.closeFrame r.1 r.2.result.taken
  if addr = 0 then s₁ else s₁.pendReply kind r.2

/-- A frame that carries a request which is carried out, broadcast or addressed (R187, R190). -/
def State.request (s : State) (kind addr : Nat) (act : State → State × Answer) : State :=
  match s.judgeFrame addr with
  | some t => t
  | none => s.finish kind addr (act s.beginGoodFrame)

/-- A frame that carries a request which only reports: a broadcast has no effect beyond the first two steps (R190). -/
def State.inquiry (s : State) (kind addr : Nat) (act : State → State × Answer) : State :=
  match s.judgeFrame addr with
  | some t => t
  | none =>
    if addr = 0 then s.closeFrame s.beginGoodFrame false
    else
      let r := act s.beginGoodFrame
      (s.closeFrame r.1 false).pendReply kind r.2

/-! ### Replies in bytes (R189, R198) -/

def Result.code : Result → Nat
  | .done => 0
  | .accepted => 1
  | .busy => 2
  | .unknown => 3
  | .full => 4
  | .range => 5
  | .state => 6
  | .format => 7
  | .noPlace => 8
  | .inUse => 9
  | .duplicate => 10

def StatusCode.code : StatusCode → Nat
  | .cancelled => 0
  | .delayed => 1
  | .due => 2
  | .expected => 3
  | .onTime => 4

def ServiceState.code : ServiceState → Nat
  | .onTime => 0
  | .expected _ _ => 1
  | .delayed => 2
  | .cancelled => 3

def PortionMask.code : PortionMask → Nat
  | .both => 0
  | .first => 1
  | .second => 2

def Mark.code : Mark → Nat
  | .calling => 0
  | .strike k => k
  | .listed => 128

def Role.code : Role → Nat
  | .head => 0
  | .calls => 1
  | .follow => 2
  | .notice => 3
  | .blank => 4

def PanelMode.code : PanelMode → Nat
  | .unbound => 0
  | .absent => 1
  | .off => 2
  | .waking => 3
  | .live => 4
  | .retiring => 5
  | .faulted => 6

def Cause.code : Cause → Nat
  | .none => 0
  | .noAnswer => 1
  | .overcurrent => 2
  | .overtemp => 3
  | .removed => 4
  | .requested => 5

def ScanOp.code : ScanOp → Nat
  | .strike => 0
  | .restore => 1

def inputCode : InputId → Nat
  | .a => 0
  | .b => 1

def flag (b : Bool) : Nat := if b then 1 else 0

def maskCode (m : Quad Bool) : Nat := flag m.q0 + 2 * flag m.q1 + 4 * flag m.q2 + 8 * flag m.q3

/-- A minute of day as hours and minutes. -/
def minuteBytes (m : Nat) : List Byte := u8 (m / 60) ++ u8 (m % 60)

/-- An optional minute of day: absent as 255, 255 (R198). -/
def optMinuteBytes : Option Nat → List Byte
  | some m => minuteBytes m
  | none => u8 255 ++ u8 255

def ServiceState.expectedMinute : ServiceState → Option Nat
  | .expected m _ => some m
  | _ => none

def portionBytes : Option Portion → List Byte
  | some p => u16 p.dest ++ u8 (p.coaches.getD 0)
  | none => u16 0 ++ u8 0

def readReplyBytes (r : ReadReply) : List Byte :=
  u16 r.handle ++ minuteBytes r.sched ++ u8 r.state.code ++ optMinuteBytes r.state.expectedMinute ++
    u8 (if r.rear.isSome then 2 else 1) ++ portionBytes (some r.front) ++ portionBytes r.rear ++
    textBytes (r.reason.getD []) ++ u8 r.slot ++ u8 r.position ++ u8 r.status.code ++ u8 (flag r.patternPresent) ++
    u8 r.patternLength ++ u8 (flag r.loadOpen)

def entryBytes (e : Entry) : List Byte :=
  u8 e.key ++ u16 e.place ++ optMinuteBytes e.time ++ u8 e.mask.code ++ u8 e.mark.code

def geometryBytes : Option Geometry → List Byte
  | some g => u8 1 ++ u16 g.width ++ u8 g.lines
  | none => u8 0 ++ u16 0 ++ u8 0

def faceReplyBytes (r : FaceReply) : List Byte :=
  u8 r.panelId ++ u8 r.roles.q0.code ++ u8 r.roles.q1.code ++ u8 r.roles.q2.code ++ u8 r.roles.q3.code ++
    u8 r.speed ++ u8 r.depth ++ u8 (flag r.callTimes) ++ u8 (flag r.autoWake) ++ geometryBytes r.geometry ++
    u8 r.mode.code

def timingReplyBytes (t : Timing) : List Byte :=
  u8 t.followDwell ++ u8 t.clearDown ++ u16 t.silenceLimit ++ u16 t.wakeTimeout ++ u16 t.rampStep ++ u16 t.passGap ++
    u8 t.loadIdle ++ u8 t.pageDwell

def approachEventBytes : ApproachEvent → List Byte
  | .raised => u8 0 ++ u8 0
  | .ended .holdExpired => u8 1 ++ u8 1
  | .ended .durationExpired => u8 1 ++ u8 2
  | .ended .reconfigured => u8 1 ++ u8 3

/-- A notice of a COLLECT reply: kind and fields; kind NONE on an empty queue (R194, R198). -/
def noticeBytes : Option Notice → List Byte
  | none => u8 0
  | some (.serviceExpired slot handle sched) => u8 1 ++ u8 slot ++ u16 handle ++ minuteBytes sched
  | some (.patternLost slot handle) => u8 2 ++ u8 slot ++ u16 handle
  | some (.scanDone id op marks touched hit) =>
    u8 3 ++ u8 id ++ u8 op.code ++ u16 marks ++ u8 touched ++ u8 (flag hit)
  | some (.faceState f mode cause) => u8 4 ++ u8 f.toNat ++ u8 mode.code ++ u8 cause.code
  | some (.levelReached f level) => u8 5 ++ u8 f.toNat ++ u8 level
  | some (.feed restored) => u8 6 ++ u8 (flag restored)
  | some (.approach i e mask) => u8 7 ++ u8 (inputCode i) ++ approachEventBytes e ++ u8 (maskCode mask)

def faceStatusBytes (r : FaceStatus) : List Byte :=
  u8 r.mode.code ++ u8 r.cause.code ++ u8 r.level ++ u8 (flag r.clipped)

def scanStatusBytes : Option (ScanOp × Nat) → List Byte
  | none => u8 0 ++ u8 0
  | some (.strike, k) => u8 1 ++ u8 k
  | some (.restore, k) => u8 2 ++ u8 k

def statusReplyBytes (r : StatusReply) : List Byte :=
  u8 (flag r.valid) ++ u8 r.hours ++ u8 r.minutes ++ u8 r.seconds ++ u24 r.pmc ++ u8 r.services ++ u16 r.freeCells ++
    u8 r.openLoads ++ u16 r.places ++ u8 r.strikes ++ scanStatusBytes r.scan ++ u8 (flag r.feedLost) ++
    r.faces.toList.flatMap faceStatusBytes ++ u16 r.counters.check ++ u16 r.counters.length ++
    u16 r.counters.abort ++ u16 r.counters.overrun

/-- The bytes of a reply's fields (R198). -/
def fieldBytes : ReplyFields → List Byte
  | .none => []
  | .slot k => u8 k
  | .calls isOpen pending present active free =>
    u8 (flag isOpen) ++ u8 pending ++ u8 (flag present) ++ u8 active ++ u16 free
  | .read r => readReplyBytes r
  | .list pending present length start es =>
    u8 (flag pending) ++ u8 (flag present) ++ u8 length ++ u8 start ++ u8 es.length ++ es.flatMap entryBytes
  | .places count marks => u16 count ++ u16 marks
  | .placeRefused p => u8 p
  | .placeCount n => u16 n
  | .strikeId k => u8 k
  | .face r => faceReplyBytes r
  | .panel mode cause => u8 mode.code ++ u8 cause.code
  | .timing t => timingReplyBytes t
  | .notice n => noticeBytes n
  | .status r => statusReplyBytes r

/-- The frame of a reply from a part with an own address (R184, R189). -/
def replyFrame (own : Nat) (r : Reply) : List Byte :=
  frameBytes (128 + own) r.kind (u8 r.result.code ++ u8 r.count ++ fieldBytes r.fields)

end Sys2Proof.Machine
end

