-- ==== Sys2Proof/Machine/ServiceCmds.lean ====
section
/-! DEFINITION. The commands of the service table and the platform clock: TIME, POST, AMEND, DROP, READ, CLOCK_SECOND
(chapter 1). -/

namespace Sys2Proof.Machine

open Sys2Proof

/-- The end of a change of the table: the display order is brought up to date, and an order change is reported, with
whether the next service changed (R6, R7). -/
def State.tableChanged (s before : State) : State :=
  let s₁ := s.reorder
  if s₁.order = before.order then s₁ else s₁.report (.order (decide (s₁.order.head? ≠ before.order.head?)))

/-- The expiry check, with its single order change (R15, R16). -/
def State.expiryCheck (s : State) : State := s.expireAll.tableChanged s

/-- The reports of services whose due status a move of PMC has turned (R7, R13, R14). -/
def State.dueReports (s : State) (oldPmc : Nat) : State :=
  s.reports ((s.services.filter fun v => v.due oldPmc != v.due s.clock.pmc).map fun v => .service v.slot)

/-! ### TIME (R11 to R13) -/

/-- A clock set by TIME: VALID, its second interval restarted (R9, R11). -/
def setTime (b : TimeBody) (pmc : Nat) : Clock :=
  { valid := true, hours := b.hours, minutes := b.minutes, seconds := b.seconds, pmc := pmc, second := some 1000 }

/-- A TIME that names another minute of day than the clock's (R12, R13). -/
def State.stepTime (s : State) (b : TimeBody) : State :=
  let d := timeStep (b.hours * 60 + b.minutes) s.clock.minuteOfDay
  let s₁ := { s with clock := setTime b (movePmc s.clock.pmc d) }
  let s₂ := if 0 < d then s₁.expiryCheck else s₁
  (s₂.dueReports s.clock.pmc).report .clockSecond

/-- A TIME whose fields are in range (R11). -/
def State.takeTime (s : State) (b : TimeBody) : State :=
  if !s.clock.valid then
    { s with clock := setTime b (1440 + (b.hours * 60 + b.minutes)) }.report .clockSecond
  else if b.hours * 60 + b.minutes = s.clock.minuteOfDay then
    let s₁ := { s with clock := setTime b s.clock.pmc }
    if b.seconds = s.clock.seconds then s₁ else s₁.report .clockSecond
  else s.stepTime b

def timeRequest (s : State) (b : TimeBody) : State × Answer :=
  if 23 < b.hours ∨ 59 < b.minutes ∨ 59 < b.seconds then refuse s .format else done (s.takeTime b)

/-- TIME (R11). -/
def execTime (addr : Nat) (body : Body TimeBody) (s : State) : Host.Outcome State Fault Refusal :=
  .next (s.request Kind.time addr fun s => onBody s body (timeRequest s))

/-! ### CLOCK_SECOND (R9, R14) -/

/-- The clock one minute on (R14, steps 1 to 3). -/
def Clock.rollover (c : Clock) : Clock :=
  let m := (c.minuteOfDay + 1) % 1440
  { c with hours := m / 60, minutes := m % 60, seconds := 0, pmc := min Config.pmcMax (c.pmc + 1) }

/-- A minute rollover (R14). -/
def State.rollover (s : State) : State :=
  let s₁ := { s with clock := s.clock.rollover }
  s₁.expiryCheck.dueReports s.clock.pmc

/-- A second boundary of a VALID clock (R9). -/
def State.advanceSecond (s : State) : State :=
  let s₁ :=
    if s.clock.seconds + 1 < 60 then { s with clock := { s.clock with seconds := s.clock.seconds + 1 } } else s.rollover
  s₁.report .clockSecond

/-- CLOCK_SECOND (R9, R14): an INVALID clock does not run. -/
def execClockSecond (s : State) : Host.Outcome State Fault Refusal :=
  .next (if s.clock.valid then s.advanceSecond.settle else s)

/-! ### POST (R17 to R20) -/

/-- The fields of a POST after destination1, a field left off read as 0 or absent (R17). -/
structure PostRest where
  coaches1 : Nat
  dest2 : Nat
  coaches2 : Nat
  reason : Text
deriving DecidableEq, Repr

def postRest : PostTail → PostRest
  | .afterDest1 => ⟨0, 0, 0, []⟩
  | .afterCoaches1 c1 => ⟨c1, 0, 0, []⟩
  | .afterDest2 c1 d2 => ⟨c1, d2, 0, []⟩
  | .afterCoaches2 c1 d2 c2 => ⟨c1, d2, c2, []⟩
  | .afterReason c1 d2 c2 r => ⟨c1, d2, c2, r⟩

/-- A service state from its code and its expected minute; none for EXPECTED without one (R17, R21). -/
def serviceState (schedAbs : Int) (sched : Nat) (code : StateCode) (expected : Option Nat) : Option ServiceState :=
  match code, expected with
  | .onTime, _ => some .onTime
  | .delayed, _ => some .delayed
  | .cancelled, _ => some .cancelled
  | .expected, some m => some (.expected m (expAbsOf schedAbs sched m))
  | .expected, none => none

/-- The portions of a POST (R17): with portion count 1, destination2 and coaches2 are ignored. -/
def postPortions (count dest1 : Nat) (t : PostRest) : Option (Portion × Option Portion) :=
  if 16 < t.coaches1 then none
  else if count = 1 then some (⟨dest1, countOrAbsent t.coaches1⟩, none)
  else if count = 2 ∧ t.dest2 ≠ 0 ∧ t.coaches2 ≤ 16 then
    some (⟨dest1, countOrAbsent t.coaches1⟩, some ⟨t.dest2, countOrAbsent t.coaches2⟩)
  else none

/-- The service a well-formed POST describes, its times converted against the clock (R17 step 3, R18); its slot, active
pattern and load context are yet to come. -/
def postService (c : Clock) (b : PostBody) : Option Service := do
  let t := postRest b.tail
  let sched ← minuteOf b.sched
  let expected ← optMinuteOf b.expected
  let code ← stateCodeOf b.state
  let (front, rear) ← postPortions b.portions b.dest1 t
  let schedAbs := schedAbsAt c sched
  let state ← serviceState schedAbs sched code expected
  if b.handle = 0 ∨ !textAllowed 0 48 t.reason then none
  else
    some
      { slot := 0
        handle := b.handle
        sched := sched
        schedAbs := schedAbs
        state := state
        front := front
        rear := rear
        reason := textOrAbsent t.reason
        active := none
        load := none }

/-- Step 2 of POST: a destination that is not in the dictionary (R17). -/
def State.postNamesNoPlace (s : State) (b : PostBody) : Bool :=
  let d2 := (postRest b.tail).dest2
  !s.hasPlace b.dest1 || (d2 != 0 && b.portions != 1 && !s.hasPlace d2)

/-- A POST that creates a service (R19). -/
def State.createService (s : State) (v : Service) : State :=
  ({ s with services := insertBySlot v s.services }.gainRefs v.dests).tableChanged s

/-- A POST or AMEND that replaces the service `old` by `new`, which keeps its slot and patterns (R20, R22). DEDUCED: a
change of an absolute minute is a change of its field (notes/assumptions/18.md). -/
def State.replaceService (s : State) (old new : Service) : State :=
  let s₁ := (((s.modService old.slot fun _ => new).loseRefs old.dests).gainRefs new.dests).tableChanged s
  if old = new then s₁ else s₁.report (.service old.slot)

def postRequest (s : State) (b : PostBody) : State × Answer :=
  if !s.clock.valid then refuse s .state
  else if s.postNamesNoPlace b then refuse s .noPlace
  else
    match postService s.clock b with
    | none => refuse s .format
    | some v =>
      match s.handleService b.handle, s.freeSlot with
      | none, none => refuse s .full
      | none, some slot =>
        if v.expired s.clock.pmc s.timing.clearDown then refuse s .range
        else doneWith (s.createService { v with slot := slot }) (.slot slot)
      | some old, _ =>
        if v.expired s.clock.pmc s.timing.clearDown then refuse s .range
        else
          doneWith (s.replaceService old { v with slot := old.slot, active := old.active, load := old.load })
            (.slot old.slot)

/-- POST (R17). -/
def execPost (addr : Nat) (body : Body PostBody) (s : State) : Host.Outcome State Fault Refusal :=
  .next (s.request Kind.post addr fun s => onBody s body (postRequest s))

/-! ### AMEND (R21, R22) -/

/-- The reason an AMEND leaves: KEEP, CLEAR or SET (R22); none where the action makes the body malformed (R21). -/
def amendReason (action : Nat) (reason : Text) (old : Option Text) : Option (Option Text) :=
  match action with
  | 0 => some old
  | 1 => some none
  | 2 => if textAllowed 1 48 reason then some (some reason) else none
  | _ => none

/-- The service an AMEND leaves; none where a field is malformed (R21 step 2, R22). -/
def amendedService (old : Service) (b : AmendBody) : Option Service := do
  let code ← stateCodeOf b.state
  let expected ← optMinuteOf b.expected
  let state ← serviceState old.schedAbs old.sched code expected
  let reason ← amendReason b.action b.reason old.reason
  some { old with state := state, reason := reason }

def amendRequest (s : State) (b : AmendBody) : State × Answer :=
  match s.handleService b.handle with
  | none => refuse s .unknown
  | some old =>
    match amendedService old b with
    | none => refuse s .format
    | some new =>
      if new.expired s.clock.pmc s.timing.clearDown then refuse s .range else done (s.replaceService old new)

/-- AMEND (R22). -/
def execAmend (addr : Nat) (body : Body AmendBody) (s : State) : Host.Outcome State Fault Refusal :=
  .next (s.request Kind.amend addr fun s => onBody s body (amendRequest s))

/-! ### DROP (R23) and READ (R24) -/

def dropRequest (s : State) (handle : Nat) : State × Answer :=
  match s.handleService handle with
  | none => refuse s .unknown
  | some v => done ((s.removeService v).tableChanged s)

/-- DROP (R23). -/
def execDrop (addr : Nat) (handle : Body Nat) (s : State) : Host.Outcome State Fault Refusal :=
  .next (s.request Kind.drop addr fun s => onBody s handle (dropRequest s))

/-- The fields READ returns of a service (R24). -/
def State.readReply (s : State) (v : Service) : ReadReply :=
  { handle := v.handle
    sched := v.sched
    state := v.state
    front := v.front
    rear := v.rear
    reason := v.reason
    slot := v.slot
    position := s.positionOf v.slot
    status := v.status s.clock.pmc
    patternPresent := v.active.isSome
    patternLength := v.activeEntries.length
    loadOpen := v.load.isSome }

def readAnswer (s : State) : Option Service → State × Answer
  | none => refuse s .unknown
  | some v => doneWith s (.read (s.readReply v))

def readRequest (s : State) (b : ReadBody) : State × Answer :=
  match b.selector with
  | 0 => readAnswer s (s.handleService b.value)
  | 1 => if b.value = 0 ∨ 24 < b.value then refuse s .range else readAnswer s (s.serviceAt b.value)
  | _ => refuse s .format

/-- READ (R24). -/
def execRead (addr : Nat) (body : Body ReadBody) (s : State) : Host.Outcome State Fault Refusal :=
  .next (s.inquiry Kind.read addr fun s => onBody s body (readRequest s))

end Sys2Proof.Machine
end

