-- ==== Sys2Proof/Machine/PatternCmds.lean ====
section
/-! DEFINITION. Calling patterns: CALLS, its close, CALLS with ABANDON, the idle timeout, LIST (chapter 2); and the strike
matching that a close, a scan visit and a code change share (R61, R65, R66, R52). -/

namespace Sys2Proof.Machine

open Sys2Proof

/-! ### Strikes against a place code -/

/-- One key character against one code character (R61). -/
def charMatches (k c : Nat) : Bool := k == 63 || k == c

/-- A strike key against a place code (R61). -/
def keyMatches (key code : Code3) : Bool :=
  charMatches key.c0 code.c0 && charMatches key.c1 code.c1 && charMatches key.c2 code.c2

/-- The code of an entry's place at this moment. -/
def State.codeOf (s : State) (place : Nat) : Option Code3 := (s.placeOf place).map PlaceEntry.code

/-- Whether a strike's key matches the code of a place at this moment (R61). -/
def State.strikeMatches (s : State) (k : Strike) (place : Nat) : Bool :=
  match s.codeOf place with
  | some c => keyMatches k.key c
  | none => false

/-- The lowest-numbered ACTIVE strike that matches a place; the list is held in id order (R60). -/
def State.lowestStrike (s : State) (place : Nat) : Option Nat :=
  (s.strikes.find? fun k => !k.releasing && s.strikeMatches k place).map Strike.id

/-- The mark of the lowest-numbered matching ACTIVE strike, or CALLING. -/
def State.strikeMark (s : State) (place : Nat) : Mark :=
  match s.lowestStrike place with
  | some k => .strike k
  | none => .calling

/-- An entry of a pattern that is closed (R41, step 3). -/
def State.closeEntry (s : State) (e : Entry) : Entry :=
  match e.mark with
  | .calling => { e with mark := s.strikeMark e.place }
  | _ => e

/-! ### Pending patterns -/

/-- An entry inserted into a pattern: at the position its key gives, or in place of the entry with its key (R36). -/
def insertEntryByKey (e : Entry) : List Entry → List Entry
  | [] => [e]
  | d :: ds => if e.key < d.key then e :: d :: ds else if e.key = d.key then e :: ds else d :: insertEntryByKey e ds

/-- The calling entry a raw entry stores; none where it is malformed (R33 step 4, R36). -/
def entryOf (r : RawEntry) : Option Entry := do
  let time ← optMinuteOf r.time
  let mask ← portionMaskOf r.mask
  some { key := r.key, place := r.place, time := time, mask := mask, mark := if r.listed then .listed else .calling }

/-- The entries of a request, when none is malformed. -/
def entriesOf : List RawEntry → Option (List Entry)
  | [] => some []
  | r :: rs =>
    match entryOf r, entriesOf rs with
    | some e, some es => some (e :: es)
    | _, _ => none

/-- The pending pattern a request starts from: empty without a context or with FRESH (R35, R37). -/
def basePending (v : Service) (fresh : Bool) : List Entry := if fresh then [] else v.pendingEntries

/-- The pending pattern after the entries of a request (R36). -/
def extendPending (base es : List Entry) : List Entry := es.foldl (fun p e => insertEntryByKey e p) base

/-- Open load contexts in the part (R31). -/
def State.openLoads (s : State) : Nat := (s.services.filter fun v => v.load.isSome).length

/-- The fields of a CALLS reply for a service as the state holds it (R40). -/
def callsFields (s : State) (slot : Nat) : ReplyFields :=
  match s.slotService slot with
  | some v =>
    .calls v.load.isSome v.pendingEntries.length v.active.isSome v.activeEntries.length s.freeCells
  | none => .none

/-- Give a service the pending pattern `es` and restart its idle timer (R35, R36, R39): cells and references follow. -/
def State.setPending (s : State) (v : Service) (es : List Entry) : State :=
  ((((s.modService v.slot fun w => { w with load := some ⟨es, some s.timing.loadIdle⟩ }).returnCells
    v.pendingEntries.length).takeCells es.length).loseRefs (v.pendingEntries.map Entry.place)).gainRefs
      (es.map Entry.place)

/-- Close the load of a service (R41). -/
def State.closeLoad (s : State) (v : Service) : State :=
  let s₁ := s.modService v.slot fun w => { w with active := some (v.pendingEntries.map s.closeEntry), load := none }
  ((s₁.returnCells v.activeEntries.length).loseRefs (v.activeEntries.map Entry.place)).report (.close v.slot)

/-- Discard the load of a service: its pending cells and references go (R34, R42). -/
def State.discardLoad (s : State) (v : Service) : State :=
  ((s.modService v.slot fun w => { w with load := none }).returnCells v.pendingEntries.length).loseRefs
    (v.pendingEntries.map Entry.place)

/-- An accepted CALLS without ABANDON (R35, R36, R41). -/
def State.takeCalls (s : State) (v : Service) (b : CallsBody) (es : List Entry) : State :=
  let s₁ := s.setPending v (extendPending (basePending v b.fresh) es)
  if b.close then
    match s₁.slotService v.slot with
    | some w => s₁.closeLoad w
    | none => s₁
  else s₁

/-! ### CALLS (R33) and CALLS with ABANDON (R34) -/

def callsRequest (s : State) (b : CallsBody) : State × Answer :=
  if Config.callsLimit < b.entries.length then refuse s .format
  else
    match s.handleService b.handle with
    | none => refuse s .unknown
    | some v =>
      if v.load.isNone ∧ Config.loadLimit ≤ s.openLoads then refuse s .busy
      else
        match entriesOf b.entries with
        | none => refuse s .format
        | some es =>
          let base := basePending v b.fresh
          let after := extendPending base es
          if !es.all fun e => s.hasPlace e.place then refuse s .noPlace
          else if Config.patternLimit < after.length then refuse s .full
          else if s.freeCells + (v.pendingEntries.length - base.length) < after.length - base.length then refuse s .full
          else
            let s₁ := s.takeCalls v b es
            doneWith s₁ (callsFields s₁ v.slot)

/-- CALLS without ABANDON (R33). -/
def execCalls (addr : Nat) (body : Body CallsBody) (s : State) : Host.Outcome State Fault Refusal :=
  .next (s.request Kind.calls addr fun s => onBody s body (callsRequest s))

def abandonRequest (s : State) (b : CallsBody) : State × Answer :=
  if Config.callsLimit < b.entries.length then refuse s .format
  else
    match s.handleService b.handle with
    | none => refuse s .unknown
    | some v =>
      let s₁ := if v.load.isSome then s.discardLoad v else s
      doneWith s₁ (callsFields s₁ v.slot)

/-- CALLS with ABANDON (R34). -/
def execCallsAbandon (addr : Nat) (body : Body CallsBody) (s : State) : Host.Outcome State Fault Refusal :=
  .next (s.request Kind.calls addr fun s => onBody s body (abandonRequest s))

/-! ### LOAD_IDLE_TIMEOUT (R42) and LIST (R45) -/

/-- The load context of a slot whose idle timer runs. -/
def Service.idleRuns (v : Service) : Bool :=
  match v.load with
  | some l => l.idle.isSome
  | none => false

/-- LOAD_IDLE_TIMEOUT (R42). -/
def execLoadIdleTimeout (slot : Nat) (s : State) : Host.Outcome State Fault Refusal :=
  .next
    (match s.slotService slot with
    | some v => if v.idleRuns then (s.discardLoad v).post (.patternLost slot v.handle) else s
    | none => s)

/-- The pattern a LIST reads, with whether it is present: active (source 0) or pending (source 1). -/
def listed (v : Service) (pending : Bool) : Bool × List Entry :=
  if pending then (true, v.pendingEntries) else (v.active.isSome, v.activeEntries)

def listAnswer (s : State) (v : Service) (pending : Bool) (start : Nat) : State × Answer :=
  let p := listed v pending
  doneWith s (.list pending p.1 p.2.length start ((p.2.drop start).take Config.callsLimit))

def listRequest (s : State) (b : ListBody) : State × Answer :=
  if 1 < b.source then refuse s .format
  else if 47 < b.start then refuse s .range
  else
    match s.handleService b.handle with
    | none => refuse s .unknown
    | some v =>
      if b.source = 1 ∧ v.load.isNone then refuse s .state else listAnswer s v (b.source == 1) b.start

/-- LIST (R45). -/
def execList (addr : Nat) (body : Body ListBody) (s : State) : Host.Outcome State Fault Refusal :=
  .next (s.inquiry Kind.list addr fun s => onBody s body (listRequest s))

end Sys2Proof.Machine
end

