-- ==== Sys2Proof/Machine/PlaceCmds.lean ====
section
/-! DEFINITION. The place dictionary and the character set: PLACE with the re-evaluation of strike marks, UNPLACE, GLYPH
(chapter 3). -/

namespace Sys2Proof.Machine

open Sys2Proof

/-! ### Changed marks, shared by re-evaluation and the visits of a scan -/

/-- How many entries of a service's active pattern take another mark under `g` (R52, R65, R66). -/
def Service.marksChanged (v : Service) (g : Entry → Entry) : Nat :=
  (v.activeEntries.filter fun e => (g e).mark ≠ e.mark).length

/-- Act on every entry of a service's active pattern. -/
def Service.mapActive (v : Service) (g : Entry → Entry) : Service := { v with active := v.active.map (List.map g) }

/-! ### PLACE: its checks (R49) -/

/-- The code and the names of a place entry are as step 1 wants them. -/
def placeFormed (p : RawPlace) : Bool :=
  isPlaceCode p.code && textAllowed 1 32 p.full && textAllowed 0 16 p.short

/-- The id of a place entry is as step 2 wants it. -/
def placeIdInRange (p : RawPlace) : Bool := decide (1 ≤ p.id) && decide (p.id ≤ 4095)

/-- The place entry an id has after an entry of a request: one that is there keeps its reference count (R50). -/
def placeEntry (p : RawPlace) (refs : Nat) : PlaceEntry :=
  { id := p.id, code := p.code, full := p.full, short := textOrAbsent p.short, refs := refs }

/-- One entry applied to the dictionary (R50). DESIGN CHOICE: it is kept in ascending id order
(notes/assumptions/20.md). -/
def putPlace (p : RawPlace) : List PlaceEntry → List PlaceEntry
  | [] => [placeEntry p 0]
  | q :: qs =>
    if p.id < q.id then placeEntry p 0 :: q :: qs
    else if p.id = q.id then placeEntry p q.refs :: qs
    else q :: putPlace p qs

/-- The dictionary a request would leave (R49, steps 3 and 4). -/
def putPlaces (ps : List RawPlace) (dict : List PlaceEntry) : List PlaceEntry := ps.foldl (fun d p => putPlace p d) dict

/-- Whether two ids of a dictionary share a code. -/
def sharesCode (dict : List PlaceEntry) : Bool := dict.any fun p => dict.any fun q => p.id != q.id && p.code == q.code

/-- The position, counted from 1, of the entry of a request that gives an id its values; 0 where the request has none. -/
def givesAt (ps : List RawPlace) (id : Nat) : Nat :=
  match (ps.reverse.map RawPlace.id).idxOf? id with
  | some i => ps.length - i
  | none => 0

/-- The positions of the entries of a request that gave a colliding code: the code of the dictionary it would leave that an
id has from the entry, and that another id has too (R49, step 3). -/
def collidingPositions (ps : List RawPlace) (dict : List PlaceEntry) : List Nat :=
  (List.range' 1 ps.length).filter fun i =>
    dict.any fun p => givesAt ps p.id == i && dict.any fun q => p.id != q.id && p.code == q.code

/-- The positions of a request that step 3 may report: that of the entry that gave a colliding code, or of the later of two
such (R49). Of three or four, each but the first is the later of some two, and which is reported is a free value
(notes/assumptions/4.md). -/
def duplicatePositions (ps : List RawPlace) (dict : List PlaceEntry) : List Nat :=
  match collidingPositions ps dict with
  | _ :: q :: rest => q :: rest
  | only => only

/-- The position of the entry that step 4 reports: the first one that takes the dictionary past 400 entries. -/
def fullPosition (ps : List RawPlace) (dict : List PlaceEntry) : Nat :=
  ((List.range' 1 ps.length).find? fun i => Config.placeLimit < (putPlaces (ps.take i) dict).length).getD ps.length

/-- The position of the first entry that fails a check, if one does. -/
def firstFailing (ps : List RawPlace) (ok : RawPlace → Bool) : Option Nat :=
  ((ps.map ok).idxOf? false).map fun i => i + 1

/-- A refused PLACE with the position of its failing entry (R49). Where the manual leaves several positions, the one
reported is a free value (notes/assumptions/4.md). -/
def State.refusePlace (s : State) (r : Result) : List Nat → State × Answer
  | [p] => (s, ⟨r, .placeRefused p⟩)
  | ps => ({ s with draws := s.draws + 1 }, ⟨r, .placeRefused ((ps[Config.placeChoice s.draws % ps.length]?).getD 1)⟩)

/-! ### PLACE: its effect (R50 to R52) -/

/-- The mark of an entry judged again by the codes and strikes of this moment (R52). -/
def State.judgedMark (s : State) (e : Entry) : Mark :=
  match e.mark with
  | .listed => .listed
  | .strike k =>
    (match s.strikes.find? fun r => r.id == k with
    | some r => if s.strikeMatches r e.place then .strike k else s.strikeMark e.place
    | none => s.strikeMark e.place)
  | .calling => s.strikeMark e.place

/-- An entry of an active pattern after a change of the codes of the places `ids` (R52). -/
def State.reEvaluated (s : State) (ids : List Nat) (e : Entry) : Entry :=
  if ids.contains e.place then { e with mark := s.judgedMark e } else e

/-- The places of a dictionary whose entry in another one differs as `p` says. -/
def changedPlaces (p : PlaceEntry → PlaceEntry → Bool) (before after : List PlaceEntry) : List Nat :=
  (before.filter fun d => after.any fun e => e.id == d.id && p d e).map PlaceEntry.id

/-- An accepted PLACE, with the number of marks its re-evaluation changed (R50). DEDUCED: place changes are reported
before strike marks (notes/assumptions/26.md). -/
def State.takePlace (s : State) (ps : List RawPlace) : State × Nat :=
  let s₁ := { s with places := putPlaces ps s.places }
  let g := s₁.reEvaluated (changedPlaces (fun d e => d.code != e.code) s.places s₁.places)
  let renamed := changedPlaces (fun d e => d.full != e.full || d.short != e.short) s.places s₁.places
  let touched := (s.services.filter fun v => v.marksChanged g != 0).map Service.slot
  ({ s₁ with services := s.services.map fun v => Service.mapActive v g }.reports
      (renamed.map Change.place ++ touched.map Change.strikeMarks),
    (s.services.map fun v => v.marksChanged g).sum)

/-- An accepted PLACE with its answer (R50). -/
def acceptPlace (s : State) (ps : List RawPlace) : State × Answer :=
  let r := s.takePlace ps
  doneWith r.1 (.places r.1.places.length r.2)

/-- The positions that step 1 may report for an entry count of 0 or above 4, or for a body that does not agree with its
entries: the first entry carried that itself fails step 1, or any position where none of them does (R49). -/
def shapePositions (ps : List RawPlace) : List Nat :=
  match firstFailing (ps.take 4) placeFormed with
  | some p => [p]
  | none => [1, 2, 3, 4]

/-- The checks of PLACE, in order (R49). -/
def placeRequest (s : State) (ps : List RawPlace) : State × Answer :=
  if ps.length = 0 ∨ 4 < ps.length then s.refusePlace .format (shapePositions ps)
  else
    match firstFailing ps placeFormed, firstFailing ps placeIdInRange with
    | some p, _ => s.refusePlace .format [p]
    | none, some p => s.refusePlace .range [p]
    | none, none =>
      if sharesCode (putPlaces ps s.places) then
        s.refusePlace .duplicate (duplicatePositions ps (putPlaces ps s.places))
      else if Config.placeLimit < (putPlaces ps s.places).length then
        s.refusePlace .full [fullPosition ps s.places]
      else acceptPlace s ps

/-- A PLACE body; one whose length does not agree with its entries is refused with a position too (R49). -/
def placeBody (s : State) : PlaceBody → State × Answer
  | .fields ps => placeRequest s ps
  | .broken ps => s.refusePlace .format (shapePositions ps)

/-- PLACE (R49). -/
def execPlace (addr : Nat) (body : PlaceBody) (s : State) : Host.Outcome State Fault Refusal :=
  .next (s.request Kind.place addr fun s => placeBody s body)

/-! ### UNPLACE (R54) -/

def unplaceRequest (s : State) (id : Nat) : State × Answer :=
  if id = 0 ∨ 4095 < id then refuse s .range
  else
    match s.placeOf id with
    | none => refuse s .unknown
    | some p =>
      if 0 < p.refs then refuse s .inUse
      else
        let s₁ := { s with places := s.places.filter fun q => q.id ≠ id }
        doneWith s₁ (.placeCount s₁.places.length)

/-- UNPLACE (R54). -/
def execUnplace (addr : Nat) (id : Body Nat) (s : State) : Host.Outcome State Fault Refusal :=
  .next (s.request Kind.unplace addr fun s => onBody s id (unplaceRequest s))

/-! ### GLYPH (R58) -/

/-- The user glyph a GLYPH stores. -/
def glyphOf (b : GlyphBody) : UserGlyph := { advance := b.advance, rows := b.rows.map (storedRow b.advance) }

/-- A GLYPH that passes its checks. -/
def State.takeGlyph (s : State) (b : GlyphBody) : State :=
  if s.glyphs[b.code - 128]? = some (glyphOf b) then s
  else { s with glyphs := s.glyphs.set (b.code - 128) (glyphOf b) }.report .glyph

def glyphRequest (s : State) (b : GlyphBody) : State × Answer :=
  if b.rows.length ≠ 16 then refuse s .format
  else if b.code < 128 ∨ 159 < b.code then refuse s .range
  else if b.advance = 0 ∨ 12 < b.advance then refuse s .range
  else done (s.takeGlyph b)

/-- GLYPH (R58). -/
def execGlyph (addr : Nat) (body : Body GlyphBody) (s : State) : Host.Outcome State Fault Refusal :=
  .next (s.request Kind.glyph addr fun s => onBody s body (glyphRequest s))

end Sys2Proof.Machine
end

