-- ==== Sys2Proof/Machine/StrikeCmds.lean ====
section
/-! DEFINITION. The strike list: STRIKE, RESTORE and the visits of a scan (chapter 4). -/

namespace Sys2Proof.Machine

open Sys2Proof

/-- The lowest strike id that no record holds (R60); none when all eight are held. -/
def State.freeStrike (s : State) : Option Nat :=
  (List.range' 1 Config.strikeLimit).find? fun k => !s.strikes.any fun r => r.id == k

/-- Put a strike into the list, which is held in id order (R60). -/
def insertStrike (r : Strike) : List Strike → List Strike
  | [] => [r]
  | q :: qs => if r.id < q.id then r :: q :: qs else q :: insertStrike r qs

/-- A scan starts at slot 0 (R64). -/
def State.startScan (s : State) (op : ScanOp) (id : Nat) : State :=
  { s with scan := some { op := op, id := id, next := 0, marks := 0, touched := 0 } }

/-! ### STRIKE (R63) and RESTORE (R66) -/

def strikeRequest (s : State) (key : Code3) : State × Answer :=
  if !isStrikeKey key then refuse s .format
  else if s.scan.isSome then refuse s .busy
  else
    match s.freeStrike with
    | none => refuse s .full
    | some k =>
      ({ s with strikes := insertStrike { id := k, key := key, releasing := false } s.strikes }.startScan .strike k,
        ⟨.accepted, .strikeId k⟩)

/-- STRIKE (R63). -/
def execStrike (addr : Nat) (key : Body Code3) (s : State) : Host.Outcome State Fault Refusal :=
  .next (s.request Kind.strike addr fun s => onBody s key (strikeRequest s))

/-- Strike `k` becomes RELEASING (R66). -/
def State.releaseStrike (s : State) (k : Nat) : State :=
  { s with strikes := s.strikes.map fun r => if r.id = k then { r with releasing := true } else r }

def restoreRequest (s : State) (k : Nat) : State × Answer :=
  if k = 0 ∨ 8 < k then refuse s .range
  else if !s.strikes.any fun r => r.id == k then refuse s .unknown
  else if s.scan.isSome then refuse s .busy
  else ((s.releaseStrike k).startScan .restore k, ⟨.accepted, .strikeId k⟩)

/-- RESTORE (R66). -/
def execRestore (addr : Nat) (id : Body Nat) (s : State) : Host.Outcome State Fault Refusal :=
  .next (s.request Kind.restore addr fun s => onBody s id (restoreRequest s))

/-! ### SCAN_VISIT (R64 to R68) -/

/-- The mark of an entry after a visit of a scan (R65, R66). -/
def State.visitMark (s : State) (sc : Scan) (e : Entry) : Mark :=
  match sc.op, e.mark with
  | .strike, .calling =>
    if s.strikes.any fun r => r.id == sc.id && s.strikeMatches r e.place then .strike sc.id else .calling
  | .restore, .strike k => if k = sc.id then s.strikeMark e.place else .strike k
  | _, m => m

def State.visitEntry (s : State) (sc : Scan) (e : Entry) : Entry := { e with mark := s.visitMark sc e }

/-- The scan after a visit that changed `n` marks (R64, R67). -/
def Scan.advance (sc : Scan) (n : Nat) : Scan :=
  { sc with
    next := sc.next + 1
    marks := satAdd Config.poolCells sc.marks n
    touched := if n = 0 then sc.touched else satAdd Config.slotCount sc.touched 1 }

/-- What a visit does to the service in its slot (R65 to R67). -/
def State.visitSlot (s : State) (sc : Scan) : State :=
  match s.slotService sc.next with
  | none => s
  | some v =>
    if v.marksChanged (s.visitEntry sc) = 0 then s
    else (s.modService sc.next fun w => w.mapActive (s.visitEntry sc)).report (.strikeMarks sc.next)

/-- How many marks a visit changes. -/
def State.visitCount (s : State) (sc : Scan) : Nat :=
  match s.slotService sc.next with
  | none => 0
  | some v => v.marksChanged (s.visitEntry sc)

/-- The end of a scan (R68). -/
def State.endScan (s : State) (sc : Scan) : State :=
  let s₁ := match sc.op with
    | .strike => s
    | .restore => { s with strikes := s.strikes.filter fun r => r.id ≠ sc.id }
  { s₁.post (.scanDone sc.id sc.op sc.marks sc.touched (decide (0 < sc.marks))) with scan := none }

/-- One visit, and the end of the scan after that of slot 23 (R64, R68). -/
def State.visit (s : State) (sc : Scan) : State :=
  let sc₁ := sc.advance (s.visitCount sc)
  let s₁ := { s.visitSlot sc with scan := some sc₁ }
  if sc₁.next < Config.slotCount then s₁ else s₁.endScan sc₁

/-- SCAN_VISIT (R64): without a scan in flight there is no visit. -/
def execScanVisit (s : State) : Host.Outcome State Fault Refusal :=
  .next
    (match s.scan with
    | none => s
    | some sc => (s.visit sc).settle)

end Sys2Proof.Machine
end

