-- ==== Sys2Proof/Machine/FaceCmds.lean ====
section
/-! DEFINITION. The face table and the composer's timers: FACE with its binding, the follow dwell, the step and gap timers of
the scroll areas (chapters 5 to 7). -/

namespace Sys2Proof.Machine

open Sys2Proof

/-! ### FACE: its fields and checks (R121) -/

/-- The carried fields of a FACE once step 1 has read them, speed and depth clamped. -/
structure FaceFields where
  panelId : Option Nat
  roles : Option (Quad Role)
  speed : Option Nat
  depth : Option Nat
  callTimes : Option Bool
  autoWake : Option Bool
deriving DecidableEq, Repr

/-- A carried field read by `g`; none where it names no value. -/
def readCarried {α β : Type} (g : α → Option β) : Option α → Option (Option β)
  | none => some none
  | some a => (g a).map some

/-- Step 1 of FACE; none where a code names no value (R121). -/
def faceFields (b : FaceBody) : Option FaceFields := do
  let roles ← readCarried rolesOf b.roles
  let callTimes ← readCarried onOff b.callTimes
  let autoWake ← readCarried onOff b.autoWake
  some
    { panelId := b.panelId
      roles := roles
      speed := b.speed.map (clamp 8 120)
      depth := b.depth.map (clamp 1 6)
      callTimes := callTimes
      autoWake := autoWake }

/-- A face record with the carried fields stored, all but the panel ID (R122). -/
def FaceRecord.store (r : FaceRecord) (c : FaceFields) : FaceRecord :=
  { r with
    roles := c.roles.getD r.roles
    speed := c.speed.getD r.speed
    depth := c.depth.getD r.depth
    callTimes := c.callTimes.getD r.callTimes
    autoWake := c.autoWake.getD r.autoWake }

/-- Whether a panel ID may not be changed in a state (R121, step 3). -/
def PanelMode.holdsBinding : PanelMode → Bool
  | .unbound => false
  | .absent => false
  | .off => false
  | .waking => true
  | .live => true
  | .retiring => true
  | .faulted => true

/-- Whether a face other than `f` holds a panel ID (R121, step 4). -/
def State.heldElsewhere (s : State) (f : FaceId) (panel : Nat) : Bool :=
  Four.all.any fun g => g != f && (s.face g).record.panelId == panel

/-! ### FACE: its effect (R122, R124) -/

/-- The actions of R122 on the changed fields, and the stale mark, for a face whose record was `old`. -/
def State.actOnFace (s : State) (f : FaceId) (old : FaceRecord) : State :=
  let new := (s.face f).record
  let s₁ := s.startAreas fun g _ j => g == f && (new.roles.get j != old.roles.get j || new.speed != old.speed)
  let s₂ :=
    if new.depth = old.depth then s₁
    else
      s₁.modFace f fun x =>
        if x.live then { x with rotation := startRotation s.timing.followDwell (s₁.rotationCount x) } else x
  let s₃ :=
    if new.callTimes = old.callTimes then s₂ else s₂.handText fun g x j => g == f && x.record.roles.get j == .calls
  if new.roles = old.roles ∧ new.speed = old.speed ∧ new.depth = old.depth ∧ new.callTimes = old.callTimes then s₃
  else s₃.report (.face f)

/-- A change of panel ID (R124). -/
def State.bind (s : State) (f : FaceId) (panel : Nat) : State :=
  let x := s.face f
  let s₁ := s.modFace f fun x =>
    { x with record := { x.record with panelId := panel, geometry := none }, lines := x.lines.map Line.stale }
  match x.panel.mode with
  | .unbound =>
    if x.panel.sense then
      let s₂ := s₁.setMode f .off .none
      if x.record.autoWake then s₂.startWake f else s₂
    else s₁.setMode f .absent .none
  | _ => if panel = 0 then s₁.setMode f .unbound .none else s₁

/-- A FACE that passes its checks (R122). -/
def State.takeFace (s : State) (f : FaceId) (c : FaceFields) : State :=
  let old := (s.face f).record
  let s₁ := (s.modFace f fun x => { x with record := x.record.store c }).actOnFace f old
  match c.panelId with
  | none => s₁
  | some p => if p = old.panelId then s₁ else s₁.bind f p

/-- The record as a FACE reply carries it (R121). -/
def Face.reply (x : Face) : FaceReply :=
  { panelId := x.record.panelId
    roles := x.record.roles
    speed := x.record.speed
    depth := x.record.depth
    callTimes := x.record.callTimes
    autoWake := x.record.autoWake
    geometry := x.record.geometry
    mode := x.panel.mode }

/-- Steps 3 and 4 of FACE on the panel ID it carries: the refusal they give, if any (R121). -/
def State.bindingRefusal (s : State) (f : FaceId) : Option Nat → Option Result
  | none => none
  | some p =>
    if p ≠ (s.face f).record.panelId ∧ (s.face f).panel.mode.holdsBinding then some .state
    else if p ≠ 0 ∧ s.heldElsewhere f p then some .duplicate
    else none

def faceRequest (s : State) (b : FaceBody) : State × Answer :=
  match faceFields b, Four.ofNat? b.face with
  | none, _ => refuse s .format
  | some _, none => refuse s .range
  | some c, some f =>
    if 15 < c.panelId.getD 0 then refuse s .range
    else
      match s.bindingRefusal f c.panelId with
      | some r => refuse s r
      | none => doneWith (s.takeFace f c) (.face ((s.takeFace f c).face f).reply)

/-- FACE (R121). -/
def execFace (addr : Nat) (body : Body FaceBody) (s : State) : Host.Outcome State Fault Refusal :=
  .next (s.request Kind.face addr fun s => onBody s body (faceRequest s))

/-! ### The timers of the composer -/

/-- FOLLOW_DWELL_EXPIRY (R89). -/
def execFollowDwellExpiry (f : FaceId) (s : State) : Host.Outcome State Fault Refusal :=
  .next
    (match (s.face f).rotation.dwell with
    | none => s
    | some _ =>
      ((s.modFace f fun x =>
        { x with rotation := dwellRotation s.timing.followDwell (s.rotationCount x) x.rotation }).report
          (.rotation f)).settle)

/-- Act on one line of a face. -/
def State.modLine (s : State) (f : FaceId) (j : LineId) (g : Line → Line) : State :=
  s.modFace f fun x => { x with lines := x.lines.set j (g (x.lines.get j)) }

/-- STEP_TIMER_EXPIRY (R107). -/
def execStepTimerExpiry (f : FaceId) (j : LineId) (s : State) : Host.Outcome State Fault Refusal :=
  .next
    (if ((s.face f).lines.get j).scroll.inPass then
      ((s.modLine f j fun l =>
        { l with scroll := stepScroll s.timing.passGap (stepInterval (s.face f).record.speed) l.scroll }).report
          (.scrollStep f j)).settle
    else s)

/-- GAP_TIMER_EXPIRY (R108): a new pass begins, without a report. -/
def execGapTimerExpiry (f : FaceId) (j : LineId) (s : State) : Host.Outcome State Fault Refusal :=
  .next (s.modLine f j fun l => { l with scroll := gapScroll (stepInterval (s.face f).record.speed) l.scroll })

end Sys2Proof.Machine
end

