-- ==== Sys2Proof/Machine/RenderCmds.lean ====
section
/-! DEFINITION. The render engine's turns and the panels' answers to it, and the end of a panel link message: RENDER_TURN,
STORED, FLIPPED, RENDER_ANSWER_TIMEOUT, TRANSMIT_END (chapter 8). -/

namespace Sys2Proof.Machine

open Sys2Proof

/-! ### RENDER_TURN (R139, R142, R143) -/

/-- The first line, from the walk position on, whose flag for the hidden buffer is clear (R139). -/
def Face.nextLine (x : Face) (r : Render) : Option LineId :=
  Four.all.find? fun j => decide (r.walk ≤ j.toNat) && x.hasLine j && !(x.lines.get j).current r.hidden

/-- The check before FLIP: every existing line's hidden flag is set and no line is overtaken (R142). -/
def Face.checkBeforeFlip (x : Face) (r : Render) : Bool :=
  Four.all.all fun j => (!x.hasLine j || (x.lines.get j).current r.hidden) && !r.overtaken.get j

def State.setRender (s : State) (r : Render) : State := { s with engine := { s.engine with render := some r } }

def State.setTransmitter (s : State) (t : Transmitter) : State := { s with link := { s.link with tx := t } }

/-- LINE for line `j`, composed at this moment (R139); the composition leaves the line's clipped mark (R99). -/
def State.sendLine (s : State) (r : Render) (j : LineId) : State :=
  let x := s.face r.face
  let c := s.composeLine x j
  ((s.modLine r.face j fun l => { l with clipped := c.2 }).setRender
    { r with walk := j.toNat + 1, inFlight := some j, sent := addLine r.sent j }).setTransmitter
      (.sending (.line x.record.panelId r.hidden j (drawImage s.glyphs x.width c.1)) (some .engine))

/-- FLIP to the hidden buffer (R142). -/
def State.sendFlip (s : State) (r : Render) : State :=
  (s.setRender { r with phase := .flipping }).setTransmitter
    (.sending (.flip (s.face r.face).record.panelId r.hidden) (some .engine))

/-- The engine's use of its transmitter turn (R139, R142): a line, or FLIP, or the turn given up by an abandonment. -/
def State.useTurn (s : State) (r : Render) : State :=
  match (s.face r.face).nextLine r with
  | some j => s.sendLine r j
  | none => if (s.face r.face).checkBeforeFlip r then s.sendFlip r else s.abandon.settle

/-- The render whose turn it is: the transmitter has been given to the engine, in phase WALKING with no line in flight. -/
def State.turnOf (s : State) : Option Render :=
  match s.link.tx, s.engine.render with
  | .engineTurn, some r => if r.phase = .walking ∧ r.inFlight = none then some r else none
  | _, _ => none

/-- RENDER_TURN (R139). -/
def execRenderTurn (s : State) : Host.Outcome State Fault Refusal :=
  .next
    (match s.turnOf with
    | some r => s.useTurn r
    | none => s)

/-! ### STORED (R140) and FLIPPED (R144, R148) -/

/-- The render and the line that a STORED answers, if it answers one (R140). -/
def State.storedFor (s : State) (panel : Nat) (buffer : Buf) (line : Nat) : Option (Render × LineId) :=
  match s.engine.render with
  | some r =>
    (match r.inFlight with
    | some j =>
      if r.phase = .walking ∧ panel = (s.face r.face).record.panelId ∧ buffer = r.hidden ∧ line = j.toNat then some (r, j)
      else none
    | none => none)
  | none => none

/-- STORED (R140). -/
def execStored (panel : Nat) (buffer : Buf) (line : Nat) (s : State) : Host.Outcome State Fault Refusal :=
  .next
    (match s.storedFor panel buffer line with
    | some (r, j) =>
      (((s.modLine r.face j fun l => l.setCurrent r.hidden true).setRender
        { r with inFlight := none, answer := none }).engineAsks).settle
    | none => s)

/-- The render that a FLIPPED from a panel answers, if it answers one (R144). -/
def State.flippedFor (s : State) (panel : Nat) : Option Render :=
  match s.engine.render with
  | some r => if r.phase = .flipping ∧ panel = (s.face r.face).record.panelId then some r else none
  | none => none

/-- A FLIPPED that answers the render's FLIP: its buffer is adopted, and the face released (R144). -/
def State.takeFlipped (s : State) (r : Render) (buffer : Buf) : State :=
  (if buffer = r.hidden then s.modFace r.face fun x => { x with record := { x.record with shown := buffer } }
    else s.mismatch r.face buffer).release

/-- A FLIPPED that answers no FLIP (R148). -/
def State.strayFlipped (s : State) (panel : Nat) (buffer : Buf) : State :=
  match s.faceOf panel with
  | some f => if s.strayMatters f buffer then (s.strayShown f buffer).settle else s
  | none => s

/-- FLIPPED (R144, R148). -/
def execFlipped (panel : Nat) (buffer : Buf) (s : State) : Host.Outcome State Fault Refusal :=
  .next
    (match s.flippedFor panel with
    | some r => (s.takeFlipped r buffer).settle
    | none => s.strayFlipped panel buffer)

/-! ### RENDER_ANSWER_TIMEOUT (R146) -/

/-- The render whose answer timer runs. -/
def State.answerAwaited (s : State) : Option Render :=
  match s.engine.render with
  | some r => if r.answer.isSome then some r else none
  | none => none

/-- RENDER_ANSWER_TIMEOUT (R146): the render ends and is released, and then the face retires. -/
def execRenderAnswerTimeout (s : State) : Host.Outcome State Fault Refusal :=
  .next
    (match s.answerAwaited with
    | some r => (s.release.retire r.face .noAnswer).settle
    | none => s)

/-! ### TRANSMIT_END (R138, R149, R168, R171, R174, R182) -/

/-- A LINE or FLIP of the render in flight has been sent in full: its answer timer starts (R138). -/
def State.startAnswerTimer (s : State) (sent : Render → Bool) : State :=
  match s.engine.render with
  | some r => if sent r then s.setRender { r with answer := some 5 } else s
  | none => s

/-- A supervisor message of a face has been sent in full: WAKE starts the wake timer, POLL and LEVEL their answer limit,
SLEEP the retire delay (R168, R171, R174). DEDUCED: no answer is awaited before it (notes/assumptions/12.md). -/
def Panel.sent (p : Panel) (wakeTimeout : Nat) : PanelMsg → Panel
  | .wake _ => if p.mode = .waking ∧ p.step = some .awaitingReady then { p with wake := some wakeTimeout } else p
  | .poll _ => if p.mode = .live then { p with awaiting := some 5 } else p
  | .level _ _ => if p.mode = .live then { p with awaiting := some 5 } else p
  | .sleep _ => if p.mode = .retiring then { p with retireDelay := some 100 } else p
  | .dark _ => p
  | .line _ _ _ _ => p
  | .flip _ _ => p

/-- A message of a shutdown tail has been sent in full: SLEEP starts its retire delay (R182). -/
def Panel.tailSent (p : Panel) : PanelMsg → Panel
  | .sleep _ => { p with tail := p.tail.map fun t => { t with delay := some 100 } }
  | _ => p

/-- What the end of a message starts for its owner. -/
def State.messageSent (s : State) (m : PanelMsg) : Option MsgOwner → State
  | some .engine =>
    (match m with
    | .line _ _ j _ => s.startAnswerTimer fun r => r.phase == .walking && r.inFlight == some j
    | .flip _ _ => s.startAnswerTimer fun r => r.phase == .flipping
    | _ => s)
  | some (.face f) => s.modPanel f fun p => p.sent s.timing.wakeTimeout m
  | some (.tail f) => s.modPanel f fun p => p.tailSent m
  | none => s

/-- TRANSMIT_END (R149). -/
def execTransmitEnd (s : State) : Host.Outcome State Fault Refusal :=
  .next
    (match s.link.tx with
    | .sending m owner => ((s.messageSent m owner).setTransmitter .free).settle
    | _ => s)

end Sys2Proof.Machine
end

