-- ==== Sys2Proof/Machine/OverrideCmds.lean ====
section
/-! DEFINITION. The override manager's commands: SHOW, CLEAR, WARN, APPROACH, the page and warning timers, the approach pins
and their timers, the silence timer's expiry (chapter 9, R192). The reports of a request are made at the end of its frame
(R153, `State.closeFrame`). -/

namespace Sys2Proof.Machine

open Sys2Proof

/-! ### SHOW (R156) -/

/-- SHOW NOTICE and SHOW DISRUPTION: the text, and the entry on every face of the mask, with one raise stamp (R156). -/
def showRequest (src : Source) (s : State) (b : ShowBody) : State × Answer :=
  if !textAllowed 0 160 b.text then refuse s .format
  else if !maskInRange b.mask then refuse s .range
  else done ((s.setText src b.text).raiseOn src (maskFaces b.mask))

/-- SHOW NOTICE (R156). -/
def execShowNotice (addr : Nat) (body : Body ShowBody) (s : State) : Host.Outcome State Fault Refusal :=
  .next (s.request Kind.show addr fun s => onBody s body (showRequest .stationNotice s))

/-- SHOW DISRUPTION (R156). -/
def execShowDisruption (addr : Nat) (body : Body ShowBody) (s : State) : Host.Outcome State Fault Refusal :=
  .next (s.request Kind.show addr fun s => onBody s body (showRequest .stationDisruption s))

/-- SHOW FALLBACK sets a text alone: its mask is checked and not used (R156). -/
def fallbackRequest (s : State) (b : ShowBody) : State × Answer :=
  if !textAllowed 0 160 b.text then refuse s .format
  else if !maskInRange b.mask then refuse s .range
  else done (s.setText .feedLost b.text)

/-- SHOW FALLBACK (R156). -/
def execShowFallback (addr : Nat) (body : Body ShowBody) (s : State) : Host.Outcome State Fault Refusal :=
  .next (s.request Kind.show addr fun s => onBody s body (fallbackRequest s))

/-! ### CLEAR (R158) -/

def clearRequest (src : Source) (s : State) (mask : Nat) : State × Answer :=
  if !maskInRange mask then refuse s .range else done (s.removeOn src (maskFaces mask))

/-- CLEAR NOTICE (R158). -/
def execClearNotice (addr : Nat) (mask : Body Nat) (s : State) : Host.Outcome State Fault Refusal :=
  .next (s.request Kind.clear addr fun s => onBody s mask (clearRequest .stationNotice s))

/-- CLEAR DISRUPTION (R158). -/
def execClearDisruption (addr : Nat) (mask : Body Nat) (s : State) : Host.Outcome State Fault Refusal :=
  .next (s.request Kind.clear addr fun s => onBody s mask (clearRequest .stationDisruption s))

/-- Set the warning timers of the faces of a mask. -/
def State.setWarnings (s : State) (mask : Quad Bool) (t : Timer) : State :=
  s.mapFaces fun f x => if mask.get f then { x with warning := t } else x

/-- CLEAR WARNING also stops the warning timers (R158). -/
def clearWarningRequest (s : State) (mask : Nat) : State × Answer :=
  if !maskInRange mask then refuse s .range
  else
    done ((s.removeOn .stationWarning (maskFaces mask)).setWarnings (maskFaces mask) none)

/-- CLEAR WARNING (R158). -/
def execClearWarning (addr : Nat) (mask : Body Nat) (s : State) : Host.Outcome State Fault Refusal :=
  .next (s.request Kind.clear addr fun s => onBody s mask (clearWarningRequest s))

/-! ### WARN (R157) -/

/-- The warning timer a WARN leaves: started for a duration above 0, which is clamped to 600 s (R157). -/
def warnTimer (duration : Nat) : Timer := if duration = 0 then none else some (clamp 0 600 duration)

def warnRequest (s : State) (b : WarnBody) : State × Answer :=
  if !textAllowed 0 160 b.text then refuse s .format
  else if !maskInRange b.mask then refuse s .range
  else
    done
      (((s.setText .stationWarning b.text).raiseOn .stationWarning (maskFaces b.mask)).setWarnings (maskFaces b.mask)
        (warnTimer b.duration))

/-- WARN (R157). -/
def execWarn (addr : Nat) (body : Body WarnBody) (s : State) : Host.Outcome State Fault Refusal :=
  .next (s.request Kind.warn addr fun s => onBody s body (warnRequest s))

/-! ### APPROACH (R160) -/

/-- Step 1 of a reconfiguration: a present entry ends (R160). DEDUCED: it is present while the input is not CLEAR
(notes/assumptions/19.md). -/
def State.endForReconfiguration (s : State) (i : InputId) : State :=
  if (s.approach.get i).state = .clear then s else s.endInput i .reconfigured

/-- Step 2: the new configuration and text are stored; a text of length 0 keeps the stored one (R160). -/
def State.configureInput (s : State) (i : InputId) (sens : Sensitivity) (b : ApproachBody) : State :=
  let s₁ := s.modInput i fun a =>
    { a with
      sensitivity := sens, mask := maskFaces b.mask, hold := clamp 0 60 b.hold, duration := clamp 5 180 b.duration }
  match b.text with
  | [] => s₁
  | t => s₁.setText (sourceOf i) t

/-- Step 3, without its notice: the state of an input that starts afresh, its entry raised in LOW with the level LOW
(R160, R164). -/
def State.startInput (s : State) (i : InputId) : State :=
  if (s.approach.get i).sensitivity = .low ∧ (s.approach.get i).debounced = false then
    (s.raiseInput i).modInput i fun a => { a with state := .active, holdTimer := none, durationTimer := none }
  else s.modInput i fun a => { a with state := .clear, holdTimer := none, durationTimer := none }

/-- The notice of step 3 (R160). -/
def State.announceInput (s : State) (i : InputId) : State :=
  if (s.approach.get i).state = .active then s.postApproach i .raised else s

/-- A reconfiguration of an input (R160). -/
def State.reconfigure (s : State) (i : InputId) (sens : Sensitivity) (b : ApproachBody) : State :=
  (((s.endForReconfiguration i).configureInput i sens b).startInput i).announceInput i

def approachRequest (s : State) (b : ApproachBody) : State × Answer :=
  match inputOf b.input, sensitivityOf b.sensitivity with
  | some i, some sens =>
    if !textAllowed 0 160 b.text then refuse s .format
    else if !maskInRange b.mask then refuse s .range
    else done (s.reconfigure i sens b)
  | _, _ => refuse s .format

/-- APPROACH (R160). -/
def execApproach (addr : Nat) (body : Body ApproachBody) (s : State) : Host.Outcome State Fault Refusal :=
  .next (s.request Kind.approach addr fun s => onBody s body (approachRequest s))

/-! ### The page and warning timers (R154, R157) -/

/-- The page index after an expiry of the page timer, with `p` pages (R154). -/
def nextPage (index p : Nat) : Nat := if index + 1 < p then index + 1 else 0

/-- An expiry of a running page timer (R154). -/
def State.turnPage (s : State) (f : FaceId) : State :=
  let page := nextPage (s.face f).page (s.pagesOf (s.face f))
  let s₁ := s.modFace f fun x => { x with page := page, pageTimer := some s.timing.pageDwell }
  if page = (s.face f).page then s₁ else s₁.report (.override f)

/-- PAGE_TIMER_EXPIRY (R154). -/
def execPageTimerExpiry (f : FaceId) (s : State) : Host.Outcome State Fault Refusal :=
  .next
    (match (s.face f).pageTimer with
    | some _ => (s.turnPage f).settle
    | none => s)

/-- A mask that names one face. -/
def oneFace (f : FaceId) : Quad Bool := noLines.set f true

/-- WARNING_TIMER_EXPIRY (R157). -/
def execWarningTimerExpiry (f : FaceId) (s : State) : Host.Outcome State Fault Refusal :=
  .next
    (match (s.face f).warning with
    | some _ =>
      (((s.removeOn .stationWarning (oneFace f)).setWarnings (oneFace f) none).overrideReports s).settle
    | none => s)

/-! ### The approach pins and their timers (R159, R161, R162) -/

/-- An input after its pin takes a level (R159): a level other than the debounced one starts the debounce timer for 20 ms,
and a return stops it. -/
def Approach.pinTo (a : Approach) (level : Bool) : Approach :=
  if level = a.raw then a
  else { a with raw := level, debounce := if level = a.debounced then none else some 20 }

/-- APPROACH_PIN_CHANGE (R159). -/
def execApproachPinChange (i : InputId) (level : Bool) (s : State) : Host.Outcome State Fault Refusal :=
  .next (s.modInput i fun a => a.pinTo level)

/-- The expiry of a running debounce timer: the debounced level takes the raw level, and the edge acts (R159). -/
def State.takeLevel (s : State) (i : InputId) : State :=
  let a := s.approach.get i
  let s₁ := s.modInput i fun a => { a with debounced := a.raw, debounce := none }
  if a.raw = a.debounced then s₁ else ((s₁.edge i a.raw).overrideReports s).settle

/-- DEBOUNCE_EXPIRY (R159). -/
def execDebounceExpiry (i : InputId) (s : State) : Host.Outcome State Fault Refusal :=
  .next
    (match (s.approach.get i).debounce with
    | some _ => s.takeLevel i
    | none => s)

/-- HOLD_TIMER_EXPIRY (R161). -/
def execHoldTimerExpiry (i : InputId) (s : State) : Host.Outcome State Fault Refusal :=
  .next
    (match (s.approach.get i).holdTimer with
    | some _ => ((s.endInput i .holdExpired).overrideReports s).settle
    | none => s)

/-- DURATION_TIMER_EXPIRY (R162). -/
def execDurationTimerExpiry (i : InputId) (s : State) : Host.Outcome State Fault Refusal :=
  .next
    (match (s.approach.get i).durationTimer with
    | some _ => ((s.endInput i .durationExpired).overrideReports s).settle
    | none => s)

/-! ### SILENCE_EXPIRY (R192, R155) -/

/-- The silence timer becomes EXPIRED. -/
def State.expireSilence (s : State) : State := { s with port := { s.port with silence := .expired } }

/-- SILENCE_EXPIRY (R192): feed loss is raised once for each silence. -/
def execSilenceExpiry (s : State) : Host.Outcome State Fault Refusal :=
  .next
    (match s.port.silence with
    | .running _ => s.expireSilence.loseFeed.settle
    | .expired => s)

end Sys2Proof.Machine
end

