-- ==== Sys2Proof/Machine/PanelCmds.lean ====
section
/-! DEFINITION. The panel supervisor's commands: POWER, DIM, CURVE, the sense inputs, the wake, poll, retire, tail and ramp
timers, READY and PANEL_STATE (chapter 10). -/

namespace Sys2Proof.Machine

open Sys2Proof

/-! ### POWER (R167) -/

/-- The answer of a POWER: the face's panel state and cause as the request leaves them. -/
def powerAnswer (s : State) (f : FaceId) (r : Result) : State × Answer :=
  (s, ⟨r, .panel (s.face f).panel.mode (s.face f).panel.cause⟩)

/-- POWER ON by panel state (R167). -/
def powerOnFace (s : State) (f : FaceId) : State × Answer :=
  match (s.face f).panel.mode with
  | .unbound => refuse s .state
  | .absent => refuse s .state
  | .off => powerAnswer (s.startWake f) f .accepted
  | .waking => powerAnswer s f .done
  | .live => powerAnswer s f .done
  | .retiring => refuse s .state
  | .faulted => powerAnswer (s.startWake f) f .accepted

/-- POWER OFF in WAKING: the wake ends (R167). -/
def State.endWake (s : State) (f : FaceId) : State :=
  ((s.dropMessages f).modPanel f fun p => { p with power := false, step := none, settle := none, wake := none }).setMode f
    .off .requested

/-- POWER OFF by panel state (R167). -/
def powerOffFace (s : State) (f : FaceId) : State × Answer :=
  match (s.face f).panel.mode with
  | .unbound => powerAnswer s f .done
  | .absent => powerAnswer s f .done
  | .off => powerAnswer s f .done
  | .waking => powerAnswer (s.endWake f) f .done
  | .live => powerAnswer (s.retire f .requested) f .done
  | .retiring => powerAnswer s f .done
  | .faulted => powerAnswer (s.setMode f .off .requested) f .done

/-- A POWER with the action `act`: a face number above 3 is refused (R167). -/
def powerRequest (act : State → FaceId → State × Answer) (s : State) (face : Nat) : State × Answer :=
  match Four.ofNat? face with
  | none => refuse s .range
  | some f => act s f

/-- POWER ON (R167). -/
def execPowerOn (addr : Nat) (face : Body Nat) (s : State) : Host.Outcome State Fault Refusal :=
  .next (s.request Kind.power addr fun s => onBody s face (powerRequest powerOnFace s))

/-- POWER OFF (R167). -/
def execPowerOff (addr : Nat) (face : Body Nat) (s : State) : Host.Outcome State Fault Refusal :=
  .next (s.request Kind.power addr fun s => onBody s face (powerRequest powerOffFace s))

/-! ### DIM (R178) and CURVE (R179) -/

/-- MANUAL on one face: mode, target and pending report, which is judged at once (R178). -/
def State.dimFace (s : State) (level : Nat) (f : FaceId) : State :=
  (s.modBright f fun b => { b with auto := false, target := level, report := some level }).judgeReport f

/-- AUTO on one face (R178). -/
def State.autoFace (s : State) (f : FaceId) : State :=
  s.modBright f fun b =>
    { b with auto := true, report := none, target := autoTarget s.curve (s.face f).panel.ambient b.target }

/-- Act on the faces of a mask in turn. -/
def State.onMask (s : State) (mask : Quad Bool) (act : State → FaceId → State) : State :=
  (Four.all.filter fun f => mask.get f).foldl act s

def dimManualRequest (s : State) (b : DimBody) : State × Answer :=
  if !maskInRange b.mask then refuse s .range
  else
    (s.onMask (maskFaces b.mask) fun s f => s.dimFace (clamp 0 63 b.level) f,
      ⟨if anyFace (maskFaces b.mask) then .accepted else .done, .none⟩)

/-- DIM with mode MANUAL (R178). -/
def execDimManual (addr : Nat) (body : Body DimBody) (s : State) : Host.Outcome State Fault Refusal :=
  .next (s.request Kind.dim addr fun s => onBody s body (dimManualRequest s))

def dimAutoRequest (s : State) (b : DimBody) : State × Answer :=
  if !maskInRange b.mask then refuse s .range else done (s.onMask (maskFaces b.mask) State.autoFace)

/-- DIM with mode AUTO (R178). -/
def execDimAuto (addr : Nat) (body : Body DimBody) (s : State) : Host.Outcome State Fault Refusal :=
  .next (s.request Kind.dim addr fun s => onBody s body (dimAutoRequest s))

/-- The points are in range, and no ambient lies below the one before it (R179). -/
def curveInRange : List RawPoint → Bool
  | [] => true
  | [p] => decide (p.ambient ≤ 1023) && decide (p.level ≤ 63)
  | p :: q :: rest =>
    decide (p.ambient ≤ 1023) && decide (p.level ≤ 63) && decide (p.ambient ≤ q.ambient) && curveInRange (q :: rest)

/-- The target of one face in AUTO judged again from its reading, without hysteresis (R179). -/
def State.retarget (s : State) (f : FaceId) : State :=
  s.modBright f fun b =>
    if b.auto then { b with target := autoTarget s.curve (s.face f).panel.ambient b.target } else b

/-- An accepted CURVE (R179). -/
def State.takeCurve (s : State) (ps : List RawPoint) : State :=
  Four.all.foldl State.retarget { s with curve := ps.map fun p => ⟨p.ambient, p.level⟩ }

def curveRequest (s : State) (ps : List RawPoint) : State × Answer :=
  if ps.length ≠ 8 then refuse s .format
  else if !curveInRange ps then refuse s .range
  else done (s.takeCurve ps)

/-- CURVE (R179). -/
def execCurve (addr : Nat) (points : Body (List RawPoint)) (s : State) : Host.Outcome State Fault Refusal :=
  .next (s.request Kind.curve addr fun s => onBody s points (curveRequest s))

/-! ### The sense inputs (R166, R182) -/

/-- A face that was ABSENT with its panel plugged in (R166). -/
def State.panelPlugged (s : State) (f : FaceId) : State :=
  if (s.face f).panel.mode = .absent then
    let s₁ := s.setMode f .off (s.face f).panel.cause
    if (s.face f).record.autoWake then s₁.startWake f else s₁
  else s

/-- SENSE_RISE (R166). -/
def execSenseRise (f : FaceId) (s : State) : Host.Outcome State Fault Refusal :=
  .next
    (if (s.face f).panel.sense then s
    else ((s.modPanel f fun p => { p with sense := true }).panelPlugged f).settle)

/-- A fall ends a shutdown tail at once, its output OFF (R182). -/
def State.cutTail (s : State) (f : FaceId) : State :=
  if (s.face f).panel.tail.isSome then (s.endTail f).modPanel f fun p => { p with power := false } else s

/-- A bound face other than ABSENT loses its panel (R166). -/
def State.panelPulled (s : State) (f : FaceId) : State :=
  match (s.face f).panel.mode with
  | .unbound => s
  | .absent => s
  | _ => s.removePanel f

/-- SENSE_FALL (R166, R182). -/
def execSenseFall (f : FaceId) (s : State) : Host.Outcome State Fault Refusal :=
  .next
    (if (s.face f).panel.sense then
      (((s.modPanel f fun p => { p with sense := false }).cutTail f).panelPulled f).settle
    else s)

/-! ### Waking (R168 to R170) -/

/-- SETTLE_TIMER_EXPIRY (R168, step 2). -/
def execSettleTimerExpiry (f : FaceId) (s : State) : Host.Outcome State Fault Refusal :=
  .next
    (match (s.face f).panel.settle with
    | some _ =>
      ((s.modPanel f fun p => { p with settle := none, step := some .awaitingReady }).ask
        ⟨f, false, (s.face f).record.panelId, .wake⟩).settle
    | none => s)

/-- The face that takes a READY, if one does (R169, R170). -/
def State.readyFor (s : State) (panel width lines : Nat) : Option FaceId :=
  match s.faceOf panel with
  | some f =>
    if (s.face f).panel.mode = .waking ∧ (s.face f).panel.step = some .awaitingReady ∧ 80 ≤ width ∧ width ≤ 384 ∧
        1 ≤ lines ∧ lines ≤ 4 then
      some f
    else none
  | none => none

/-- READY (R169, R170). -/
def execReady (panel width lines : Nat) (s : State) : Host.Outcome State Fault Refusal :=
  .next
    (match s.readyFor panel width lines with
    | some f => (s.becomeLive f ⟨width, lines⟩).settle
    | none => s)

/-- WAKE_TIMER_EXPIRY (R170). -/
def execWakeTimerExpiry (f : FaceId) (s : State) : Host.Outcome State Fault Refusal :=
  .next
    (match (s.face f).panel.wake with
    | some _ =>
      ((s.modPanel f fun p => { p with wake := none, step := none, power := false }).setMode f .faulted .noAnswer).settle
    | none => s)

/-! ### Polling (R171 to R173) -/

/-- POLL_TIMER_EXPIRY (R172). -/
def execPollTimerExpiry (f : FaceId) (s : State) : Host.Outcome State Fault Refusal :=
  .next
    (match (s.face f).panel.poll with
    | some _ => ((s.askOnce f .poll).modPanel f fun p => { p with poll := some 1000 }).settle
    | none => s)

/-- The face that takes a PANEL_STATE, if one does (R172). -/
def State.panelStateFor (s : State) (panel : Nat) : Option FaceId :=
  match s.faceOf panel with
  | some f => if (s.face f).live ∧ (s.face f).panel.awaiting.isSome then some f else none
  | none => none

/-- Steps 3 and 4 of a PANEL_STATE without a fault bit (R172, R180). -/
def State.takeReading (s : State) (f : FaceId) (ambient : Nat) (shown : Buf) : State :=
  let s₁ := s.modPanel f fun p => { p with ambient := some ambient }
  let s₂ := s₁.modBright f fun b =>
    if b.auto then { b with target := hysteresis (curveValue s.curve ambient) b.target } else b
  if s₂.awaitsFlip f then s₂ else s₂.strayShown f shown

/-- A PANEL_STATE taken for a face (R172). -/
def State.takePanelState (s : State) (f : FaceId) (ambient : Nat) (overcurrent overtemp : Bool) (shown : Buf) : State :=
  let s₁ := s.modPanel f fun p => { p with awaiting := none }
  if overcurrent then s₁.retire f .overcurrent
  else if overtemp then s₁.retire f .overtemp
  else s₁.takeReading f ambient shown

/-- PANEL_STATE (R172). -/
def execPanelState (panel ambient : Nat) (overcurrent overtemp : Bool) (shown : Buf) (s : State) :
    Host.Outcome State Fault Refusal :=
  .next
    (match s.panelStateFor panel with
    | some f => (s.takePanelState f ambient overcurrent overtemp shown).settle
    | none => s)

/-- PANEL_ANSWER_LIMIT (R173). -/
def execPanelAnswerLimit (f : FaceId) (s : State) : Host.Outcome State Fault Refusal :=
  .next
    (match (s.face f).panel.awaiting with
    | some _ => ((s.modPanel f fun p => { p with awaiting := none }).retire f .noAnswer).settle
    | none => s)

/-! ### The ends of a retire and of a shutdown tail (R174, R182) -/

/-- RETIRE_DELAY_EXPIRY (R174). -/
def execRetireDelayExpiry (f : FaceId) (s : State) : Host.Outcome State Fault Refusal :=
  .next
    (match (s.face f).panel.retireDelay with
    | some _ =>
      ((s.modPanel f fun p => { p with retireDelay := none, power := false }).setMode f
        (retiredMode (s.face f).panel.cause) (s.face f).panel.cause).settle
    | none => s)

/-- Whether the retire delay of a shutdown tail runs. -/
def Panel.tailDelayed (p : Panel) : Bool :=
  match p.tail with
  | some t => t.delay.isSome
  | none => false

/-- SHUTDOWN_TAIL_END (R182). -/
def execShutdownTailEnd (f : FaceId) (s : State) : Host.Outcome State Fault Refusal :=
  .next
    (if (s.face f).panel.tailDelayed then s.modPanel f fun p => { p with tail := none, power := false } else s)

/-! ### The ramp (R177) -/

/-- A ramp step that finds the present level off the effective target (R177). -/
def State.rampStep (s : State) (f : FaceId) : State :=
  let s₁ := s.modFace f fun x =>
    { x with bright := { x.bright with present := rampLevel x.bright.present x.bright.effective } }
  ((s₁.askOnce f .level).judgeReport f).modFace f fun x =>
    { x with
      bright :=
        { x.bright with ramp := if x.bright.present = x.bright.effective then none else some s.timing.rampStep } }

/-- RAMP_TIMER_EXPIRY (R177). -/
def execRampTimerExpiry (f : FaceId) (s : State) : Host.Outcome State Fault Refusal :=
  .next
    (match (s.face f).bright.ramp with
    | some _ =>
      if (s.face f).bright.present = (s.face f).bright.effective then
        s.modFace f fun x => { x with bright := { x.bright with ramp := none } }
      else (s.rampStep f).settle
    | none => s)

end Sys2Proof.Machine
end

