-- ==== Sys2Proof/Machine/LinkCmds.lean ====
section
/-! DEFINITION. What the station link port carries out itself, and the events of the line: COLLECT, STATUS, TIMING, unknown
kinds, frame errors, overruns, foreign frames, the quiet line and the reply (chapter 11). -/

namespace Sys2Proof.Machine

open Sys2Proof

/-! ### COLLECT (R194) and STATUS (R195) -/

def collectRequest (s : State) : State × Answer :=
  match s.notices with
  | [] => doneWith s (.notice none)
  | n :: rest => doneWith { s with notices := rest } (.notice (some n))

/-- COLLECT (R194). -/
def execCollect (addr : Nat) (body : Body Unit) (s : State) : Host.Outcome State Fault Refusal :=
  .next (s.inquiry Kind.collect addr fun s => onBody s body fun _ => collectRequest s)

def Face.status (x : Face) : FaceStatus :=
  { mode := x.panel.mode, cause := x.panel.cause, level := x.bright.present, clipped := x.clipped }

/-- The fields of a STATUS reply, the feed as it stood at the frame's arrival (R195). -/
def State.statusReply (s : State) (feedLost : Bool) : StatusReply :=
  { valid := s.clock.valid
    hours := s.clock.hours
    minutes := s.clock.minutes
    seconds := s.clock.seconds
    pmc := s.clock.pmc
    services := s.services.length
    freeCells := s.freeCells
    openLoads := s.openLoads
    places := s.places.length
    strikes := s.strikes.length
    scan := s.scan.map fun sc => (sc.op, sc.id)
    feedLost := feedLost
    faces := s.faces.map Face.status
    counters := s.port.counters }

def statusRequest (feedLost : Bool) (s : State) (clear : Bool) : State × Answer :=
  doneWith (if clear then s.setCounters Counters.zero else s) (.status (s.statusReply feedLost))

/-- STATUS (R195). -/
def execStatus (addr : Nat) (clear : Body Bool) (s : State) : Host.Outcome State Fault Refusal :=
  .next (s.inquiry Kind.status addr fun t => onBody t clear (statusRequest s.feedHeld t))

/-! ### TIMING (R196) -/

/-- A carried setting brought into its range, or the one held. -/
def setting (lo hi : Nat) (carried : Option Nat) (held : Nat) : Nat :=
  match carried with
  | some n => clamp lo hi n
  | none => held

/-- The settings a TIMING leaves (R196). -/
def Timing.store (t : Timing) (b : TimingBody) : Timing :=
  { followDwell := setting 2 20 b.followDwell t.followDwell
    clearDown := setting 0 15 b.clearDown t.clearDown
    silenceLimit := setting 10 600 b.silenceLimit t.silenceLimit
    wakeTimeout := setting 100 2000 b.wakeTimeout t.wakeTimeout
    rampStep := setting 10 500 b.rampStep t.rampStep
    passGap := setting 0 5000 b.passGap t.passGap
    loadIdle := setting 5 120 b.loadIdle t.loadIdle
    pageDwell := setting 2 20 b.pageDwell t.pageDwell }

/-- A silence timer after a TIMING that carries the limit: started again for it, if RUNNING (R196). -/
def Silence.restart (limit : Nat) : Silence → Silence
  | .running _ => .running limit
  | .expired => .expired

/-- An accepted TIMING (R196). -/
def State.takeTiming (s : State) (b : TimingBody) : State :=
  let s₁ := { s with timing := s.timing.store b }
  match b.silenceLimit with
  | some _ => { s₁ with port := { s₁.port with silence := s₁.port.silence.restart s₁.timing.silenceLimit } }
  | none => s₁

def timingRequest (s : State) (b : TimingBody) : State × Answer :=
  doneWith (s.takeTiming b) (.timing (s.timing.store b))

/-- TIMING (R196). -/
def execTiming (addr : Nat) (body : Body TimingBody) (s : State) : Host.Outcome State Fault Refusal :=
  .next (s.request Kind.timing addr fun s => onBody s body (timingRequest s))

/-- UNKNOWN_KIND (R189): answered FORMAT with the received kind code. -/
def execUnknownKind (addr kind : Nat) (s : State) : Host.Outcome State Fault Refusal :=
  .next (s.request kind addr fun s => refuse s .format)

/-! ### Frame errors (R185, R186, R188, R191): a receiver in HUNT takes no frame -/

/-- FRAME_CHECK_ERROR (R186). -/
def execFrameCheckError (s : State) : Host.Outcome State Fault Refusal :=
  .next
    (if s.port.receiver = .hunt then s
    else (s.setCounters { s.port.counters with check := bump s.port.counters.check }).setReceiver .hunt)

/-- FRAME_LENGTH_ERROR (R186). -/
def execFrameLengthError (s : State) : Host.Outcome State Fault Refusal :=
  .next
    (if s.port.receiver = .hunt then s
    else (s.setCounters { s.port.counters with length := bump s.port.counters.length }).setReceiver .hunt)

/-- FRAME_ABORT (R186): counted only once the address byte has named the part. -/
def execFrameAbort (afterAddress : Bool) (s : State) : Host.Outcome State Fault Refusal :=
  .next
    (if s.port.receiver = .hunt then s
    else if afterAddress then
      (s.setCounters { s.port.counters with abort := bump s.port.counters.abort }).setReceiver .hunt
    else s.setReceiver .hunt)

/-- OVERRUN (R188): there is one only while a reply is pending. -/
def execOverrun (s : State) : Host.Outcome State Fault Refusal :=
  .next (if s.port.receiver = .hunt ∨ s.port.reply = none then s else s.countOverrun)

/-- FOREIGN_FRAME (R185). -/
def execForeignFrame (broken : Bool) (s : State) : Host.Outcome State Fault Refusal :=
  .next (if s.port.receiver = .hunt then s else s.setReceiver (if broken then .hunt else .idle))

/-- QUIET_TIME (R185): the quiet line is looked for in HUNT, and not while the driver is enabled (R183; DEDUCED,
notes/assumptions/11.md). -/
def execQuietTime (s : State) : Host.Outcome State Fault Refusal :=
  .next (if s.port.receiver = .hunt ∧ s.port.sending = none then s.setReceiver .idle else s)

/-! ### The reply (R183, R188, R189) -/

/-- The bytes that go out on the pair while the driver is enabled. -/
def State.setSending (s : State) (bytes : Option (List Byte)) : State := { s with port := { s.port with sending := bytes } }

/-- The reply whose delay runs: pending and not yet being sent. -/
def State.replyDelayed (s : State) : Option Reply := if s.port.sending = none then s.port.reply else none

/-- REPLY_DELAY_EXPIRY (R189): the driver is enabled, the reply starts on the line, the receiver goes to HUNT. -/
def execReplyDelayExpiry (s : State) : Host.Outcome State Fault Refusal :=
  .next
    (match s.replyDelayed with
    | some r => (s.setSending (some (replyFrame s.port.address r))).setReceiver .hunt
    | none => s)

/-- REPLY_SENT (R188): the pair is released, and no reply is pending. -/
def execReplySent (s : State) : Host.Outcome State Fault Refusal :=
  .next
    (match s.port.sending with
    | some _ => { s with port := { s.port with sending := none, reply := none } }
    | none => s)

end Sys2Proof.Machine
end

