-- ==== Sys2Proof/Machine/ResetCmds.lean ====
section
/-! DEFINITION. The three kinds of reset: power-on, RESTART ALL, RESTART CONTENT (R3, R25, R46, R55, R72, R95, R113, R133,
R150, R164, R181, R182, R197, R199). -/

namespace Sys2Proof.Machine

open Sys2Proof

/-- POWER_ON_RESET (R3). -/
def execPowerOnReset (pins : Pins) (s : State) : Host.Outcome State Fault Refusal :=
  .next { State.powerOn pins with draws := s.draws, pending := s.pending }

/-! ### RESTART ALL (R182, R197) -/

/-- Whether the SLEEP of a retiring face is under way. -/
def State.sendsSleep (s : State) (f : FaceId) : Bool :=
  match s.link.tx with
  | .sending (.sleep _) (some (.face g)) => g == f
  | _ => false

/-- The shutdown tail of a face that was RETIRING: its delay starts at once when SLEEP had been sent (R182). -/
def State.retiringTail (s : State) (f : FaceId) : Tail :=
  { panel := (s.face f).record.panelId
    delay := if s.messageWaits f .sleep || s.sendsSleep f then none else some 100 }

/-- The shutdown tail a RESTART ALL leaves a face: a new one for LIVE and RETIRING, and none for WAKING, OFF, FAULTED and
ABSENT, whose output is OFF at the restart (R182). One that runs for an UNBOUND face goes on (DEDUCED,
notes/assumptions/15.md). -/
def State.tailAfter (s : State) (f : FaceId) : Option Tail :=
  match (s.face f).panel.mode with
  | .live => some { panel := (s.face f).record.panelId, delay := none }
  | .retiring => some (s.retiringTail f)
  | .unbound => (s.face f).panel.tail
  | .absent => none
  | .off => none
  | .waking => none
  | .faulted => none

/-- Whether what an earlier shutdown tail of a face still sends or waits to send stays that tail's. -/
def State.tailGoesOn (s : State) (f : FaceId) : Bool := (s.face f).panel.mode == .unbound

/-- The messages a new shutdown tail asks for: of those of a retire, only the ones that still wait (R182). -/
def State.tailMessages (s : State) (f : FaceId) : List SupMsg :=
  let panel := (s.face f).record.panelId
  match (s.face f).panel.mode with
  | .live => [⟨f, true, panel, .dark⟩, ⟨f, true, panel, .sleep⟩]
  | .retiring =>
    (if s.messageWaits f .dark then [⟨f, true, panel, .dark⟩] else []) ++
      if s.messageWaits f .sleep then [⟨f, true, panel, .sleep⟩] else []
  | _ => []

/-- A face after RESTART ALL, its sense input at its level, its output ON while a tail runs. -/
def Face.restarted (x : Face) (tail : Option Tail) : Face :=
  { Face.initial x.panel.sense with
    panel := { Panel.initial x.panel.sense with power := tail.isSome, tail := tail } }

/-- A message under way at RESTART ALL is finished (R150); the SLEEP of a retire goes over to the tail, and that of a tail
which goes on stays the tail's. -/
def Transmitter.restarted (goesOn : FaceId → Bool) : Transmitter → Transmitter
  | .sending (.sleep p) (some (.face f)) => .sending (.sleep p) (some (.tail f))
  | .sending m (some (.tail f)) => .sending m (if goesOn f then some (.tail f) else none)
  | .sending m _ => .sending m none
  | .engineTurn => .free
  | .free => .free

/-- The approach input after RESTART ALL: levels and a debounce in progress are kept (R159, R164). -/
def Approach.restarted (a : Approach) : Approach := Approach.initial a.raw a.debounced a.debounce

/-- The panel link after RESTART ALL: the messages of tails that go on, then those of new tails (R150, R182). -/
def State.linkAfter (s : State) : PanelLink :=
  { tx := s.link.tx.restarted s.tailGoesOn
    waiting := (s.link.waiting.filter fun m => m.tail && s.tailGoesOn m.face) ++ Four.all.flatMap s.tailMessages
    engineWaits := false }

/-- The effect of RESTART ALL (R3, R197). -/
def State.restartAll (s : State) : State :=
  { State.powerOn resetPins with
    faces := s.faces.mapIdx fun f x => x.restarted (s.tailAfter f)
    link := s.linkAfter
    approach := { a := s.approach.a.restarted, b := s.approach.b.restarted }
    port := { s.port with silence := .running Timing.initial.silenceLimit }
    draws := s.draws
    pending := s.pending }

/-- RESTART ALL (R197). -/
def execRestartAll (addr : Nat) (body : Body Unit) (s : State) : Host.Outcome State Fault Refusal :=
  .next (s.request Kind.restart addr fun s => onBody s body fun _ => done s.restartAll)

/-! ### RESTART CONTENT (R197) -/

/-- The sources whose entries RESTART CONTENT removes (R164). -/
def Source.isContent : Source → Bool
  | .feedLost => false
  | _ => true

/-- A face after its content is cleared, before the approach inputs are re-evaluated. -/
def Face.cleared (x : Face) : Face :=
  { x with
    record := { x.record with request := .none }
    lines := x.lines.map fun l => { l with clipped := false }
    rotation := { index := 0, dwell := none }
    overrides := x.overrides.filter fun e => !e.source.isContent
    warning := none }

/-- Table, patterns, references, strikes, scan, override entries and the three texts cleared; the engine freed, its history
empty (R25, R46, R55, R72, R150, R164). -/
def State.clearContent (s : State) : State :=
  { s with
    services := []
    order := []
    freeCells := Config.poolCells
    places := s.places.map fun p => { p with refs := 0 }
    strikes := []
    scan := none
    faces := s.faces.map Face.cleared
    engine := { render := none, history := [] }
    link := { s.link with tx := s.link.tx.releaseEngine, engineWaits := false }
    texts := { s.texts with notice := [], disruption := [], warning := [] } }

/-- The page index of every face restarts (R154, R164). -/
def State.restartPages (s : State) : State := s.mapFaces fun _ x => x.restartPage s.timing.pageDwell

/-- The effect of RESTART CONTENT (R3, R197): the content is cleared, the inputs are re-evaluated, areas and pages restart
and every line of each LIVE face is marked stale; the notice queue is emptied and the silence timer starts again. The reports
of R153 follow at the end of the frame. DESIGN CHOICE: input A is re-evaluated before input B (notes/assumptions/16.md). -/
def State.restartContent (s : State) : State :=
  let s₁ := (s.clearContent.startInput .a).startInput .b
  let s₂ := ((s₁.startAreas fun _ _ _ => true).report .restartContent).restartPages
  { s₂ with notices := [] }.restartSilence

/-- RESTART CONTENT (R197). -/
def execRestartContent (addr : Nat) (body : Body Unit) (s : State) : Host.Outcome State Fault Refusal :=
  .next (s.request Kind.restart addr fun s => onBody s body fun _ => done s.restartContent)

end Sys2Proof.Machine
end

