-- ==== Sys2Proof/Machine/Dispatch.lean ====
section
/-! DEFINITION. The meaning of every command: one arm for each constructor of `Instr`. -/

namespace Sys2Proof.Machine

open Sys2Proof

def exec (i : Instr) (s : State) : Host.Outcome State Fault Refusal :=
  match i with
  | .powerOnReset pins => Sys2Proof.Machine.execPowerOnReset pins s
  | .time addr body => Sys2Proof.Machine.execTime addr body s
  | .post addr body => Sys2Proof.Machine.execPost addr body s
  | .amend addr body => Sys2Proof.Machine.execAmend addr body s
  | .calls addr body => Sys2Proof.Machine.execCalls addr body s
  | .callsAbandon addr body => Sys2Proof.Machine.execCallsAbandon addr body s
  | .drop addr handle => Sys2Proof.Machine.execDrop addr handle s
  | .read addr body => Sys2Proof.Machine.execRead addr body s
  | .list addr body => Sys2Proof.Machine.execList addr body s
  | .place addr body => Sys2Proof.Machine.execPlace addr body s
  | .unplace addr id => Sys2Proof.Machine.execUnplace addr id s
  | .glyph addr body => Sys2Proof.Machine.execGlyph addr body s
  | .strike addr key => Sys2Proof.Machine.execStrike addr key s
  | .restore addr id => Sys2Proof.Machine.execRestore addr id s
  | .scanVisit => Sys2Proof.Machine.execScanVisit s
  | .face addr body => Sys2Proof.Machine.execFace addr body s
  | .powerOn addr face => Sys2Proof.Machine.execPowerOn addr face s
  | .powerOff addr face => Sys2Proof.Machine.execPowerOff addr face s
  | .dimManual addr body => Sys2Proof.Machine.execDimManual addr body s
  | .dimAuto addr body => Sys2Proof.Machine.execDimAuto addr body s
  | .curve addr points => Sys2Proof.Machine.execCurve addr points s
  | .showNotice addr body => Sys2Proof.Machine.execShowNotice addr body s
  | .showDisruption addr body => Sys2Proof.Machine.execShowDisruption addr body s
  | .showFallback addr body => Sys2Proof.Machine.execShowFallback addr body s
  | .clearNotice addr mask => Sys2Proof.Machine.execClearNotice addr mask s
  | .clearDisruption addr mask => Sys2Proof.Machine.execClearDisruption addr mask s
  | .clearWarning addr mask => Sys2Proof.Machine.execClearWarning addr mask s
  | .warn addr body => Sys2Proof.Machine.execWarn addr body s
  | .approach addr body => Sys2Proof.Machine.execApproach addr body s
  | .timing addr body => Sys2Proof.Machine.execTiming addr body s
  | .collect addr body => Sys2Proof.Machine.execCollect addr body s
  | .status addr clear => Sys2Proof.Machine.execStatus addr clear s
  | .restartAll addr body => Sys2Proof.Machine.execRestartAll addr body s
  | .restartContent addr body => Sys2Proof.Machine.execRestartContent addr body s
  | .unknownKind addr kind => Sys2Proof.Machine.execUnknownKind addr kind s
  | .frameCheckError => Sys2Proof.Machine.execFrameCheckError s
  | .frameLengthError => Sys2Proof.Machine.execFrameLengthError s
  | .frameAbort afterAddress => Sys2Proof.Machine.execFrameAbort afterAddress s
  | .overrun => Sys2Proof.Machine.execOverrun s
  | .foreignFrame broken => Sys2Proof.Machine.execForeignFrame broken s
  | .quietTime => Sys2Proof.Machine.execQuietTime s
  | .replyDelayExpiry => Sys2Proof.Machine.execReplyDelayExpiry s
  | .replySent => Sys2Proof.Machine.execReplySent s
  | .silenceExpiry => Sys2Proof.Machine.execSilenceExpiry s
  | .clockSecond => Sys2Proof.Machine.execClockSecond s
  | .loadIdleTimeout slot => Sys2Proof.Machine.execLoadIdleTimeout slot s
  | .followDwellExpiry face => Sys2Proof.Machine.execFollowDwellExpiry face s
  | .stepTimerExpiry face line => Sys2Proof.Machine.execStepTimerExpiry face line s
  | .gapTimerExpiry face line => Sys2Proof.Machine.execGapTimerExpiry face line s
  | .renderTurn => Sys2Proof.Machine.execRenderTurn s
  | .stored panel buffer line => Sys2Proof.Machine.execStored panel buffer line s
  | .flipped panel buffer => Sys2Proof.Machine.execFlipped panel buffer s
  | .renderAnswerTimeout => Sys2Proof.Machine.execRenderAnswerTimeout s
  | .transmitEnd => Sys2Proof.Machine.execTransmitEnd s
  | .senseRise face => Sys2Proof.Machine.execSenseRise face s
  | .senseFall face => Sys2Proof.Machine.execSenseFall face s
  | .settleTimerExpiry face => Sys2Proof.Machine.execSettleTimerExpiry face s
  | .ready panel width lines => Sys2Proof.Machine.execReady panel width lines s
  | .wakeTimerExpiry face => Sys2Proof.Machine.execWakeTimerExpiry face s
  | .pollTimerExpiry face => Sys2Proof.Machine.execPollTimerExpiry face s
  | .panelState panel ambient overcurrent overtemp shown => Sys2Proof.Machine.execPanelState panel ambient overcurrent overtemp shown s
  | .panelAnswerLimit face => Sys2Proof.Machine.execPanelAnswerLimit face s
  | .retireDelayExpiry face => Sys2Proof.Machine.execRetireDelayExpiry face s
  | .shutdownTailEnd face => Sys2Proof.Machine.execShutdownTailEnd face s
  | .rampTimerExpiry face => Sys2Proof.Machine.execRampTimerExpiry face s
  | .pageTimerExpiry face => Sys2Proof.Machine.execPageTimerExpiry face s
  | .warningTimerExpiry face => Sys2Proof.Machine.execWarningTimerExpiry face s
  | .approachPinChange input level => Sys2Proof.Machine.execApproachPinChange input level s
  | .debounceExpiry input => Sys2Proof.Machine.execDebounceExpiry input s
  | .holdTimerExpiry input => Sys2Proof.Machine.execHoldTimerExpiry input s
  | .durationTimerExpiry input => Sys2Proof.Machine.execDurationTimerExpiry input s

end Sys2Proof.Machine
end

