-- ==== Sys2Proof/Safety.lean ====
section
/-! DEFINITION. What statements about the part are made of: frames (which blocks of the state, and which parts of a face, a
command leaves alone), what an answered request leaves of the port, and the invariants a safe run keeps. A run is safe when
every state of it meets `State.Safe`. -/

namespace Sys2Proof.Machine

open Sys2Proof

/-! ### Frames -/

/-- The blocks of the state, one for each field of `State`. -/
inductive Block where
  | clock | services | order | freeCells | places | glyphs | strikes | scan | faces | engine | link | texts | stamps
  | approach | curve | timing | port | notices | draws | pending
deriving DecidableEq, Repr

/-- `t` holds in a block what `s` holds there. -/
def State.agrees (s t : State) : Block → Prop
  | .clock => t.clock = s.clock
  | .services => t.services = s.services
  | .order => t.order = s.order
  | .freeCells => t.freeCells = s.freeCells
  | .places => t.places = s.places
  | .glyphs => t.glyphs = s.glyphs
  | .strikes => t.strikes = s.strikes
  | .scan => t.scan = s.scan
  | .faces => t.faces = s.faces
  | .engine => t.engine = s.engine
  | .link => t.link = s.link
  | .texts => t.texts = s.texts
  | .stamps => t.nextStamp = s.nextStamp
  | .approach => t.approach = s.approach
  | .curve => t.curve = s.curve
  | .timing => t.timing = s.timing
  | .port => t.port = s.port
  | .notices => t.notices = s.notices
  | .draws => t.draws = s.draws
  | .pending => t.pending = s.pending

/-- From `s` to `t` no block changed but those listed. -/
def State.changesOnly (s t : State) (bs : List Block) : Prop := ∀ b, b ∉ bs → s.agrees t b

/-- The parts of what the part holds for a face. `flags` are the holds-current flags of its lines, `paging` its page index
and page timer, `request` its request state. -/
inductive FacePart where
  | binding | roles | speed | depth | callTimes | autoWake | geometry | shown | request | flags | clipped | scrolls
  | rotation | overrides | paging | warning | panel | bright
deriving DecidableEq, Repr

/-- `y` holds in a part what `x` holds there. -/
def Face.agrees (x y : Face) : FacePart → Prop
  | .binding => y.record.panelId = x.record.panelId
  | .roles => y.record.roles = x.record.roles
  | .speed => y.record.speed = x.record.speed
  | .depth => y.record.depth = x.record.depth
  | .callTimes => y.record.callTimes = x.record.callTimes
  | .autoWake => y.record.autoWake = x.record.autoWake
  | .geometry => y.record.geometry = x.record.geometry
  | .shown => y.record.shown = x.record.shown
  | .request => y.record.request = x.record.request
  | .flags => ∀ j b, (y.lines.get j).current b = (x.lines.get j).current b
  | .clipped => ∀ j, (y.lines.get j).clipped = (x.lines.get j).clipped
  | .scrolls => ∀ j, (y.lines.get j).scroll = (x.lines.get j).scroll
  | .rotation => y.rotation = x.rotation
  | .overrides => y.overrides = x.overrides
  | .paging => y.page = x.page ∧ y.pageTimer = x.pageTimer
  | .warning => y.warning = x.warning
  | .panel => y.panel = x.panel
  | .bright => y.bright = x.bright

/-- From `x` to `y` no part of the face changed but those listed. -/
def Face.changesOnly (x y : Face) (ps : List FacePart) : Prop := ∀ p, p ∉ ps → x.agrees y p

/-- From `s` to `t` no face changed but in the parts listed. -/
def State.facesChangeOnly (s t : State) (ps : List FacePart) : Prop := ∀ f, (s.face f).changesOnly (t.face f) ps

/-- From `s` to `t` every face but `f` changed in the parts listed for the others at most. -/
def State.othersChangeOnly (s t : State) (f : FaceId) (ps : List FacePart) : Prop :=
  ∀ g, g ≠ f → (s.face g).changesOnly (t.face g) ps

/-- What the end of an event may touch: request states, the engine and the panel link (R129, R136, R149). -/
def settleBlocks : List Block := [.faces, .engine, .link]

/-! ### Notices (R193) -/

/-- The kind of a notice, by its code, with its subject: the slot, the face or the input, or 0 for a single one (R193). -/
def Notice.subject : Notice → Nat × Nat
  | .serviceExpired slot _ _ => (1, slot)
  | .patternLost slot _ => (2, slot)
  | .scanDone _ _ _ _ _ => (3, 0)
  | .faceState f _ _ => (4, f.toNat)
  | .levelReached f _ => (5, f.toNat)
  | .feed _ => (6, 0)
  | .approach i _ _ => (7, inputCode i)

/-- Whether a command may take notices out of the queue: a reset, which empties it, or COLLECT (R193, R194). -/
def takesNotices : Instr → Bool
  | .powerOnReset _ => true
  | .restartAll _ _ => true
  | .restartContent _ _ => true
  | .collect _ _ => true
  | _ => false

/-! ### Good frames and replies (R187, R189) -/

/-- Whether a whole frame with these address bits that passes its check is a good frame (R185, R187, R188). -/
def State.takesFrame (s : State) (addr : Nat) : Bool :=
  s.port.receiver != .hunt && s.concerns addr && s.port.reply.isNone

/-- The address bits and the kind code of the frame a request came in, and whether its body read as the fields of its row;
none for a command that is no request. -/
def requestHead : Instr → Option (Nat × Nat × Bool)
  | .time a b => some (a, Kind.time, b != .malformed)
  | .post a b => some (a, Kind.post, b != .malformed)
  | .amend a b => some (a, Kind.amend, b != .malformed)
  | .calls a b => some (a, Kind.calls, b != .malformed)
  | .callsAbandon a b => some (a, Kind.calls, b != .malformed)
  | .drop a b => some (a, Kind.drop, b != .malformed)
  | .read a b => some (a, Kind.read, b != .malformed)
  | .list a b => some (a, Kind.list, b != .malformed)
  | .place a b => some (a, Kind.place, b.agrees)
  | .unplace a b => some (a, Kind.unplace, b != .malformed)
  | .glyph a b => some (a, Kind.glyph, b != .malformed)
  | .strike a b => some (a, Kind.strike, b != .malformed)
  | .restore a b => some (a, Kind.restore, b != .malformed)
  | .face a b => some (a, Kind.face, b != .malformed)
  | .powerOn a b => some (a, Kind.power, b != .malformed)
  | .powerOff a b => some (a, Kind.power, b != .malformed)
  | .dimManual a b => some (a, Kind.dim, b != .malformed)
  | .dimAuto a b => some (a, Kind.dim, b != .malformed)
  | .curve a b => some (a, Kind.curve, b != .malformed)
  | .showNotice a b => some (a, Kind.show, b != .malformed)
  | .showDisruption a b => some (a, Kind.show, b != .malformed)
  | .showFallback a b => some (a, Kind.show, b != .malformed)
  | .clearNotice a b => some (a, Kind.clear, b != .malformed)
  | .clearDisruption a b => some (a, Kind.clear, b != .malformed)
  | .clearWarning a b => some (a, Kind.clear, b != .malformed)
  | .warn a b => some (a, Kind.warn, b != .malformed)
  | .approach a b => some (a, Kind.approach, b != .malformed)
  | .timing a b => some (a, Kind.timing, b != .malformed)
  | .collect a b => some (a, Kind.collect, b != .malformed)
  | .status a b => some (a, Kind.status, b != .malformed)
  | .restartAll a b => some (a, Kind.restart, b != .malformed)
  | .restartContent a b => some (a, Kind.restart, b != .malformed)
  | .unknownKind a k => some (a, k, false)
  | _ => none

/-- What a good frame that carries nothing out makes of the state before its requests and grants are judged: its first two
steps, and the override reports that these call for (R153, R187). -/
def State.emptyFrame (s : State) : State := s.beginGoodFrame.overrideReports s

/-- The port after a good frame whose request was answered: no reply is pending after a broadcast (R187, R189, R190). -/
def State.answered (s t : State) (kind addr : Nat) (r : Result) (fields : ReplyFields) : Prop :=
  t.port =
    { s.port with
      receiver := .idle
      silence := .running s.timing.silenceLimit
      reply := if addr = 0 then s.port.reply else some ⟨kind, r, t.notices.length, fields⟩ }

/-- A request that is answered and changes nothing else: the state is that of a good frame that carries nothing out (R2,
R187). -/
def State.onlyAnswers (s t : State) (kind addr : Nat) (r : Result) (fields : ReplyFields) : Prop :=
  s.answered t kind addr r fields ∧ (s.closeFrame s.beginGoodFrame false).changesOnly t [.port]

/-- A request refused with the header alone (R189). -/
def State.refuses (s t : State) (kind addr : Nat) (r : Result) : Prop := s.onlyAnswers t kind addr r .none

/-- Entry `i` of a PLACE request, counted from 1, gave a colliding code: no later entry has its id, and another id has its
code in the dictionary as the request would leave it (R49, step 3). -/
def givesCollidingCode (ps : List RawPlace) (dict : List PlaceEntry) (i : Nat) : Prop :=
  ∃ p, 1 ≤ i ∧ ps[i - 1]? = some p ∧ (∀ q ∈ ps.drop i, q.id ≠ p.id) ∧ ∃ d ∈ dict, d.id ≠ p.id ∧ d.code = p.code

/-- A refused PLACE, with the position of the entry at fault (R49). -/
def State.refusesPlace (s t : State) (addr : Nat) (r : Result) (position : Nat) : Prop :=
  s.answered t Kind.place addr r (.placeRefused position) ∧
    (s.closeFrame s.beginGoodFrame false).changesOnly t [.port, .draws]

/-- A request that was taken: its answer, the blocks it touches beside those of the end of an event, and the parts of each
face it touches, all against what a good frame that carries nothing out leaves (R187). -/
def State.carriesOut (s t : State) (kind addr : Nat) (r : Result) (fields : ReplyFields) (bs : List Block)
    (ps : List FacePart) : Prop :=
  s.answered t kind addr r fields ∧
    s.emptyFrame.changesOnly t (bs ++ .port :: settleBlocks) ∧
    s.emptyFrame.facesChangeOnly t (.request :: ps)

/-- Both flags of line `j` of face `f` are clear: the line is stale (R125). -/
def State.staleLine (s : State) (f : FaceId) (j : LineId) : Prop :=
  ((s.face f).lines.get j).current .b0 = false ∧ ((s.face f).lines.get j).current .b1 = false

/-- A role line that is composed: an existing line of a LIVE face without a current board override, with its role (R127,
R128). -/
def Face.showsRole (x : Face) (j : LineId) (r : Role) : Prop :=
  x.live = true ∧ x.hasLine j = true ∧ x.currentOverride = none ∧ x.record.roles.get j = r

/-- An event of the part itself: the blocks it touches beside those of the end of an event, and the parts of each face. -/
def State.eventChanges (s t : State) (bs : List Block) (ps : List FacePart) : Prop :=
  s.changesOnly t (bs ++ settleBlocks) ∧ s.facesChangeOnly t (.request :: ps)

/-- A face's DARK and SLEEP have been asked for, last of all and in this order: both wait, or DARK is being sent (R174). -/
def State.asksDarkThenSleep (s : State) (f : FaceId) (panel : Nat) : Prop :=
  (∃ before, s.link.waiting = before ++ [⟨f, false, panel, .dark⟩, ⟨f, false, panel, .sleep⟩]) ∨
    (s.link.tx = .sending (.dark panel) (some (.face f)) ∧ ∃ before, s.link.waiting = before ++ [⟨f, false, panel, .sleep⟩])

/-- LIVE face `f` has started its retire with a cause: it shows nothing, its request and its render are gone, its timers but
those of the retire are stopped, and DARK and then SLEEP have been asked for (R147, R174). -/
def State.startsRetire (s t : State) (f : FaceId) (cause : Cause) : Prop :=
  (t.face f).panel =
    { (s.face f).panel with mode := .retiring, cause := cause, poll := none, awaiting := none, ambient := none } ∧
  (t.face f).record.request = .none ∧ (∀ j, (t.face f).lines.get j = ⟨false, false, false, .idle⟩) ∧
  (t.face f).rotation = ⟨0, none⟩ ∧ (t.face f).page = 0 ∧ (t.face f).pageTimer = none ∧
  (t.face f).bright.present = 0 ∧ (t.face f).bright.ramp = none ∧
  (∀ q, t.engine.render = some q → q.face ≠ f) ∧
  t.asksDarkThenSleep f (s.face f).record.panelId ∧ Notice.faceState f .retiring cause ∈ t.notices

/-- What a retire, a removed panel or a new LIVE state may change of a face. -/
def darkParts : List FacePart := [.flags, .clipped, .scrolls, .rotation, .paging, .panel, .bright]

/-- An event that starts the retire of face `f` and does nothing else. -/
def State.retiresFor (s t : State) (f : FaceId) (cause : Cause) : Prop :=
  s.eventChanges t [.notices] darkParts ∧ s.othersChangeOnly t f [.request] ∧ s.startsRetire t f cause ∧
    t.notices = postNotice (.faceState f .retiring cause) s.notices

/-! ### What the reports of an event leave (R90, R104, R111, R127, R128) -/

/-- What an order change from `s` to `t` marks: every FOLLOW line, and HEAD and CALLS lines too when the next service
changed (R127, rows 1 and 2). -/
def State.marksOrder (s t : State) : Prop :=
  t.order ≠ s.order →
    ∀ f j r, (s.face f).showsRole j r →
      (r = .follow ∨ (t.order.head? ≠ s.order.head? ∧ (r = .head ∨ r = .calls))) → t.staleLine f j

/-- The lines of the roles listed whose shown service is the one in a slot are marked (R127, rows 3 to 5). -/
def State.marksService (s t : State) (slot : Nat) (roles : List Role) : Prop :=
  ∀ f j r, (s.face f).showsRole j r → r ∈ roles → (∃ v, t.shownService (t.face f) r = some v ∧ v.slot = slot) →
    t.staleLine f j

/-- The lines whose shown service has a place as a destination, or, on a CALLS line, in its active pattern, are marked
(R127, row 6). -/
def State.marksPlace (s t : State) (id : Nat) : Prop :=
  ∀ f j r, (s.face f).showsRole j r →
    (∃ v, t.shownService (t.face f) r = some v ∧
      (id ∈ v.dests ∨ (r = .calls ∧ ∃ e ∈ v.activeEntries, e.place = id))) →
    t.staleLine f j

/-- The phase a scroll area takes when it is started at step interval `k`, from its measures W and Wa if it has a text
(R104). -/
def Scroll.startsWith (after : Scroll) (k : Nat) : Option (Nat × Nat) → Prop
  | none => after = .idle
  | some (w, wa) => after = if w ≤ wa then .still w wa else .pass w wa 0 k (stepWait k 1)

/-- The phase a scroll area takes at a text changed hand-off, by the table of R111. -/
def Scroll.takesText (before after : Scroll) (passGap k : Nat) : Option (Nat × Nat) → Prop
  | none => after = .idle
  | some (w, wa) =>
    (w ≤ wa → after = .still w wa) ∧
    (wa < w →
      ((before = .idle ∨ ∃ a b, before = .still a b) → after = .pass w wa 0 k (stepWait k 1)) ∧
      (∀ a b n k₀ d, before = .pass a b n k₀ d →
        (n < w + wa → after = .pass w wa n k₀ d) ∧
        (w + wa ≤ n → passGap ≠ 0 → after = .gap w wa (2 * passGap)) ∧
        (w + wa ≤ n → passGap = 0 → after = .pass w wa 0 k (stepWait k 1))) ∧
      ∀ a b g, before = .gap a b g → after = .gap w wa g)

/-- The reports that are a text changed hand-off to the area of line `j` of face `f`: a glyph change; a clock second and a
notice change to a NOTICE area; one that reaches a CALLS line, other than an order change (R94, R111, R112, R127). -/
def State.changesText (s : State) (c : Change) (f : FaceId) (j : LineId) : Prop :=
  c = .glyph ∨
  ((s.face f).record.roles.get j = .notice ∧ (c = .clockSecond ∨ c = .notice f)) ∨
  ((s.face f).record.roles.get j = .calls ∧
    ∃ v, s.nextService = some v ∧
      (c = .service v.slot ∨ c = .close v.slot ∨ c = .strikeMarks v.slot ∨
        ∃ id, c = .place id ∧ (id ∈ v.dests ∨ ∃ e ∈ v.activeEntries, e.place = id)))

/-- A rotation at index 0, its timer started for the full dwell where it has positions (R90, R91). -/
def Rotation.startsOver (r : Rotation) (dwell count : Nat) : Prop :=
  r = ⟨0, if count = 0 then none else some dwell⟩

/-- What the comparison of R153 makes of an event from `s` to `t`, each report at most once: a face whose current override or
its text differs restarts its page index (R154) and has every existing line stale, if it is LIVE; one whose notice differs has
its NOTICE lines stale; the level-3 state follows the list; a face on which nothing differs keeps page, timer and state. -/
def State.reportsOverrides (s t : State) : Prop :=
  ∀ f,
    (t.shownOverride f = s.shownOverride f → (s.face f).agrees (t.face f) .paging) ∧
    (t.shownOverride f ≠ s.shownOverride f →
      (t.face f).page = 0 ∧
      (t.face f).pageTimer =
        (if (t.face f).live ∧ (t.face f).currentOverride.isSome then some t.timing.pageDwell else none) ∧
      ∀ j, (t.face f).live = true → (t.face f).hasLine j = true → t.staleLine f j) ∧
    (t.heldNotice f ≠ s.heldNotice f → ∀ j, (t.face f).showsRole j .notice → t.staleLine f j) ∧
    (t.face f).bright.level3 = (if t.level3 f = s.level3 f then (s.face f).bright.level3 else t.level3 f)

/-- The entry of an input is raised (R152, R161 to R163): on the faces of its mask it stands, with the next raise stamp, where
its level puts it, the entries of other sources are kept, and RAISED is posted; where no face held the entry before, the
faces that hold it now are those of the mask. -/
def State.raisesInput (s t : State) (i : InputId) : Prop :=
  t.notices = postNotice (.approach i .raised (s.approach.get i).mask) s.notices ∧ t.nextStamp = s.nextStamp + 1 ∧
  (∀ f, (t.face f).overrides =
    if (s.approach.get i).mask.get f then
      insertEntry ⟨sourceOf i, s.nextStamp⟩ ((s.face f).overrides.filter fun e => e.source ≠ sourceOf i)
    else (s.face f).overrides) ∧
  (∀ f, (s.approach.get i).mask.get f = true → (t.face f).holds (sourceOf i) = true) ∧
  ((∀ f, (s.face f).holds (sourceOf i) = false) →
    ∀ f, (t.face f).holds (sourceOf i) = (s.approach.get i).mask.get f)

/-! ### What the expiry check leaves, and how waiting faces rank -/

/-- `t` is what the expiry check leaves of `s` at the PMC of `t`: every service whose clear-down, or hold of four hours, has
passed is gone, with its cells and references, and the rest stand in display order; a notice for each of them is posted to the
queue `held`, in slot order (R15, R16). -/
def State.expires (s t : State) (held : List Notice) : Prop :=
  t.services = s.services.filter (fun v => !v.expired t.clock.pmc s.timing.clearDown) ∧
  t.order = displayOrder t.services ∧
  t.notices =
    (s.services.filter fun v => v.expired t.clock.pmc s.timing.clearDown).foldl
      (fun q v => postNotice (.serviceExpired v.slot v.handle v.sched) q) held ∧
  t.freeCells =
    s.freeCells + ((s.services.filter fun v => v.expired t.clock.pmc s.timing.clearDown).map Service.cells).sum ∧
  t.places = s.places.map fun p =>
    { p with
      refs :=
        p.refs - ((s.services.filter fun v => v.expired t.clock.pmc s.timing.clearDown).flatMap Service.refs).count p.id }

/-- Waiting face `f` ranks before waiting face `g`: by level, then one that has not been granted, then the one granted
longest ago, then the higher panel ID (R136). -/
def State.outranks (s : State) (f g : FaceId) : Prop :=
  (s.face g).requestLevel < (s.face f).requestLevel ∨
  ((s.face g).requestLevel = (s.face f).requestLevel ∧
    ((f ∉ s.engine.history ∧ g ∈ s.engine.history) ∨
      (f ∈ s.engine.history ∧ g ∈ s.engine.history ∧ s.engine.history.idxOf f < s.engine.history.idxOf g) ∨
      (f ∉ s.engine.history ∧ g ∉ s.engine.history ∧ (s.face g).record.panelId < (s.face f).record.panelId)))

/-- The render record of a grant just made: the walk at its start, nothing in flight, sent or overtaken (R137). -/
def Render.isFresh (r : Render) : Prop :=
  r.phase = .walking ∧ r.walk = 0 ∧ r.inFlight = none ∧ r.answer = none ∧ r.sent = Quad.const false ∧
    r.overtaken = Quad.const false

/-! ### Invariants -/

/-- The slot of a notice whose subject is a slot lies in the table (R193). -/
def Notice.slotInTable : Notice → Prop
  | .serviceExpired slot _ _ => slot < Config.slotCount
  | .patternLost slot _ => slot < Config.slotCount
  | _ => True

/-- The notice queue holds no two notices of one kind and subject, and every slot named, there and in the table, is one of
the 24 (R4, R193). -/
structure State.QueueInv (s : State) : Prop where
  distinct : s.notices.Pairwise fun m n => m.sameSubject n = false
  subjects : ∀ n ∈ s.notices, n.slotInTable
  slots : ∀ v ∈ s.services, v.slot < Config.slotCount

/-- The service table: one service for each occupied slot, in slot order; handles differ; the display order is the one the
keys of R6 give (R4, R6). -/
structure State.TableInv (s : State) : Prop where
  ascending : s.services.Pairwise fun v w => v.slot < w.slot
  slots : ∀ v ∈ s.services, v.slot < Config.slotCount
  handles : s.services.Pairwise fun v w => v.handle ≠ w.handle
  order : s.order = displayOrder s.services

/-- A pattern: keys ascend, and there are at most 48 entries (R29). -/
def patternOk (es : List Entry) : Prop :=
  es.Pairwise (fun d e => d.key < e.key) ∧ es.length ≤ Config.patternLimit

/-- The cell pool: the free count and the cells of all patterns make 640, patterns are as R29 wants them, and at most four
load contexts are open (R28, R29, R31). -/
structure State.PoolInv (s : State) : Prop where
  cells : s.freeCells + (s.services.map Service.cells).sum = Config.poolCells
  active : ∀ v ∈ s.services, patternOk v.activeEntries
  loading : ∀ v ∈ s.services, patternOk v.pendingEntries
  loads : s.openLoads ≤ Config.loadLimit

/-- The references to a place that the services and their patterns hold (R48). -/
def State.referencesTo (s : State) (id : Nat) : Nat := (s.services.map fun v => v.refs.count id).sum

/-- The dictionary: ids ascend, no two share a code, there are at most 400 entries, every reference count is the number of
references held, and every place referred to is there (R47 to R49). -/
structure State.PlacesInv (s : State) : Prop where
  ascending : s.places.Pairwise fun p q => p.id < q.id
  codes : sharesCode s.places = false
  size : s.places.length ≤ Config.placeLimit
  counts : ∀ p ∈ s.places, p.refs = s.referencesTo p.id
  present : ∀ v ∈ s.services, ∀ id ∈ v.refs, s.hasPlace id = true

/-- A strike id names a record whose key matches the code that a place has now (R62). -/
def State.strikeStands (s : State) (k place : Nat) : Prop :=
  ∃ r ∈ s.strikes, r.id = k ∧ s.strikeMatches r place = true

/-- Whether the scan in flight is the RESTORE scan of strike `k`, at slot `next`. -/
def State.restoring (s : State) (k next : Nat) : Prop :=
  ∃ sc, s.scan = some sc ∧ sc.op = .restore ∧ sc.id = k ∧ sc.next = next

/-- Strike marks: an entry of an active pattern is struck by `k` only while `k` is listed and matches; pending entries carry
no strike marks; a strike is RELEASING exactly while its RESTORE scan is in flight, and the slots this scan has visited hold
nothing struck by it (R27, R60, R62, R64, R66). -/
structure State.StrikesInv (s : State) : Prop where
  ascending : s.strikes.Pairwise fun a b => a.id < b.id
  ids : ∀ r ∈ s.strikes, 1 ≤ r.id ∧ r.id ≤ Config.strikeLimit
  stands : ∀ v ∈ s.services, ∀ e ∈ v.activeEntries, ∀ k, e.mark = .strike k → s.strikeStands k e.place
  unstruck : ∀ v ∈ s.services, ∀ e ∈ v.pendingEntries, ∀ k, e.mark ≠ .strike k
  releasing : ∀ r ∈ s.strikes, r.releasing = true ↔ ∃ n, s.restoring r.id n
  visited : ∀ k n, s.restoring k n →
    ∀ v ∈ s.services, v.slot < n → ∀ e ∈ v.activeEntries, e.mark ≠ .strike k
  next : ∀ sc, s.scan = some sc → sc.next < Config.slotCount

/-- The panel states in which the face has its panel plugged in (R165, R166). -/
def PanelMode.pluggedIn : PanelMode → Bool
  | .unbound => false
  | .absent => false
  | _ => true

/-- The panel states whose power output is ON (R165). -/
def PanelMode.powered : PanelMode → Bool
  | .waking => true
  | .live => true
  | .retiring => true
  | _ => false

/-- The panel supervisor's fields of a face agree with its panel state (R165, R166, R168, R171, R174, R182). -/
structure Face.PanelInv (x : Face) : Prop where
  bound : x.panel.mode = .unbound ↔ x.record.panelId = 0
  power : x.panel.power = (x.panel.mode.powered || x.panel.tail.isSome)
  sensed : x.panel.mode.pluggedIn = true → x.panel.sense = true
  absent : x.panel.mode = .absent → x.panel.sense = false
  step : x.panel.step.isSome = (x.panel.mode == .waking)
  settle : x.panel.settle.isSome = (x.panel.step == some .settling)
  wake : x.panel.wake.isSome = true → x.panel.step = some .awaitingReady
  retireDelay : x.panel.retireDelay.isSome = true → x.panel.mode = .retiring
  poll : x.panel.poll.isSome = x.live
  awaiting : x.panel.awaiting.isSome = true → x.live = true
  ambient : x.panel.ambient.isSome = true → x.live = true
  tail : x.panel.tail.isSome = true → x.panel.sense = true ∧ (x.panel.mode = .unbound ∨ x.panel.mode = .off)
  geometry : x.live = true → x.record.geometry.isSome = true

/-- Every face's supervisor fields agree with its panel state, and no two faces hold one panel ID (R118). -/
structure State.PanelsInv (s : State) : Prop where
  faces : ∀ f, (s.face f).PanelInv
  distinct : ∀ f g, f ≠ g → (s.face f).record.panelId = (s.face g).record.panelId → (s.face f).record.panelId = 0

/-- A face outside LIVE has no flag, no request, no rotation, no scroll, no page and no clipped mark; one in LIVE has its
page timer running exactly while a board override is current (R91, R113, R125, R129, R132, R154). -/
structure Face.ShownInv (x : Face) : Prop where
  dark : x.live = false →
    (∀ j, x.lines.get j = Line.initial) ∧ x.record.request = .none ∧ x.rotation = { index := 0, dwell := none }
  paging : x.pageTimer.isSome = (x.live && x.currentOverride.isSome)
  page : x.pageTimer = none → x.page = 0

/-- Every face is shown nothing outside LIVE. -/
def State.FacesInv (s : State) : Prop := ∀ f, (s.face f).ShownInv

/-- A set of lines lies within another. -/
def within (p q : Quad Bool) : Prop := ∀ j, p.get j = true → q.get j = true

/-- The render record: overtaken lines were sent, the line in flight was sent, FLIPPING has no line in flight, the answer
timer runs only while an answer is awaited (R134). -/
structure Render.Consistent (r : Render) : Prop where
  overtaken : within r.overtaken r.sent
  inFlight : ∀ j, r.inFlight = some j → r.sent.get j = true ∧ r.phase = .walking
  answer : r.answer.isSome = true → r.inFlight.isSome = true ∨ r.phase = .flipping

/-- The engine: the face it is HELD by, and no other, is GRANTED, and is LIVE; the history names no face twice and ends with
a granted face; the render draws into the buffer its face record does not name as shown (R134, R137). -/
structure State.EngineInv (s : State) : Prop where
  granted : ∀ f, (s.face f).record.request = .granted ↔ s.grants f = true
  live : ∀ f, s.grants f = true → (s.face f).live = true
  record : ∀ r, s.engine.render = some r → r.Consistent
  history : s.engine.history.Nodup
  last : ∀ r, s.engine.render = some r → s.engine.history.getLast? = some r.face
  hidden : ∀ r, s.engine.render = some r → r.hidden = (s.face r.face).record.shown.other

/-- A curve as CURVE takes it: levels in range, ambients that do not fall (R179). -/
structure CurveInv (c : List CurvePoint) : Prop where
  levels : ∀ p ∈ c, p.level ≤ 63
  ambients : c.Pairwise fun p q => p.ambient ≤ q.ambient

/-- Brightness: every level lies in 0 to 63; outside LIVE the present level is 0 and the ramp is stopped; the ramp runs
while the present level is off the effective target (R176, R177). -/
structure Face.BrightInv (x : Face) : Prop where
  target : x.bright.target ≤ 63
  present : x.bright.present ≤ 63
  report : ∀ n, x.bright.report = some n → n ≤ 63
  dark : x.live = false → x.bright.present = 0 ∧ x.bright.ramp = none
  ramp : x.live = true → x.bright.present ≠ x.bright.effective → x.bright.ramp.isSome = true
  level3 : x.bright.level3 = (x.requestLevel == 3)

/-- Every face's brightness is in range. -/
structure State.LevelsInv (s : State) : Prop where
  faces : ∀ f, (s.face f).BrightInv
  curve : CurveInv s.curve

/-- `e` stands before `d` in an override list (R152). -/
def OverrideEntry.before (e d : OverrideEntry) : Prop :=
  d.source.level < e.source.level ∨ (e.source.level = d.source.level ∧ d.stamp < e.stamp)

/-- An override list: at most one entry for a source, by level and then by the latest raising (R152). -/
structure Face.ListInv (x : Face) (nextStamp : Nat) : Prop where
  sources : x.overrides.Pairwise fun e d => e.source ≠ d.source
  ordered : x.overrides.Pairwise OverrideEntry.before
  stamps : ∀ e ∈ x.overrides, e.stamp < nextStamp

/-- Every override list is in its order. -/
def State.OverridesInv (s : State) : Prop := ∀ f, (s.face f).ListInv s.nextStamp

/-- The clock in range (R9). -/
structure Clock.InRange (c : Clock) : Prop where
  hours : c.hours ≤ 23
  minutes : c.minutes ≤ 59
  seconds : c.seconds ≤ 59
  pmc : c.pmc ≤ Config.pmcMax

/-- Every setting of TIMING within its range (R196). -/
structure Timing.InRange (t : Timing) : Prop where
  followDwell : 2 ≤ t.followDwell ∧ t.followDwell ≤ 20
  clearDown : t.clearDown ≤ 15
  silenceLimit : 10 ≤ t.silenceLimit ∧ t.silenceLimit ≤ 600
  wakeTimeout : 100 ≤ t.wakeTimeout ∧ t.wakeTimeout ≤ 2000
  rampStep : 10 ≤ t.rampStep ∧ t.rampStep ≤ 500
  passGap : t.passGap ≤ 5000
  loadIdle : 5 ≤ t.loadIdle ∧ t.loadIdle ≤ 120
  pageDwell : 2 ≤ t.pageDwell ∧ t.pageDwell ≤ 20

/-- Clock, user glyphs, settings and error counters within their ranges (R9, R58, R191, R196). -/
structure State.RangesInv (s : State) : Prop where
  glyphs : s.glyphs.length = 32
  advances : ∀ u ∈ s.glyphs, 1 ≤ u.advance ∧ u.advance ≤ 12
  clock : s.clock.InRange
  timing : s.timing.InRange
  check : s.port.counters.check ≤ Config.counterMax
  length : s.port.counters.length ≤ Config.counterMax
  abort : s.port.counters.abort ≤ Config.counterMax
  overrun : s.port.counters.overrun ≤ Config.counterMax

/-- What every state of a safe run meets. -/
structure State.Safe (s : State) : Prop where
  queue : s.QueueInv
  table : s.TableInv
  pool : s.PoolInv
  places : s.PlacesInv
  strikes : s.StrikesInv
  panels : s.PanelsInv
  faces : s.FacesInv
  engine : s.EngineInv
  levels : s.LevelsInv
  overrides : s.OverridesInv
  ranges : s.RangesInv

end Sys2Proof.Machine
end

