-- ==== Sys2Proof/Certificates/Slice0/Obligations.lean ====
section
/-! DEFINITION. What the provers are asked to prove of the model. `s` is the state before, `t` the state after; a request is
judged against `s.emptyFrame`, what a good frame that carries nothing out leaves (R187), and its overrides, marks and notices
against `s.beginGoodFrame`, the state after the first two steps of its frame. -/

open Sys2Proof Sys2Proof.Machine

/-! ### The queue of commands -/

/-- The model's own rule (notes/assumptions/6.md): a step carries out the command at the front of the queue. -/
def Obligations.StepRunsTheFrontCommand : Prop :=
  ∀ (c : Instr) (rest : List Instr) (s : State), step (s.withPending (c :: rest)) = exec c (s.withPending rest)

/-! ### Resets (R3, R25, R46, R55, R72, R95, R113, R133, R150, R164, R165, R176, R199) -/

/-- Power-on gives every piece of state its reset value, reads the straps and samples the inputs. That raisings are counted
from 0 and that the commands which wait stay are the model's choices (notes/assumptions/21.md, 6.md). -/
def Obligations.PowerOnGivesResetValues : Prop :=
  ∀ (pins : Pins) (s : State), ∃ t, exec (.powerOnReset pins) s = .next t ∧
    t.clock.valid = false ∧ t.clock.hours = 0 ∧ t.clock.minutes = 0 ∧ t.clock.seconds = 0 ∧ t.clock.pmc = 0 ∧
    t.clock.second = none ∧ t.nextStamp = 0 ∧ t.pending = s.pending ∧
    t.services = [] ∧ t.order = [] ∧ t.freeCells = 640 ∧ t.places = [] ∧ t.strikes = [] ∧ t.scan = none ∧
    t.glyphs = List.replicate 32 ⟨6, List.replicate 16 0⟩ ∧ t.notices = [] ∧
    t.engine = ⟨none, []⟩ ∧ t.link = ⟨.free, [], false⟩ ∧
    t.curve = [⟨0, 3⟩, ⟨20, 6⟩, ⟨60, 12⟩, ⟨150, 22⟩, ⟨300, 34⟩, ⟨500, 46⟩, ⟨750, 56⟩, ⟨1023, 63⟩] ∧
    t.timing = ⟨6, 1, 90, 400, 40, 1500, 20, 5⟩ ∧
    t.port = ⟨[19200, 38400, 57600, 115200].getD (min pins.baud 3) 0, pins.address, .hunt, none, none, ⟨0, 0, 0, 0⟩,
      .running 90⟩ ∧
    t.texts.notice = [] ∧ t.texts.disruption = [] ∧ t.texts.warning = [] ∧
    t.texts.feedLost = codes "Service information is temporarily unavailable." ∧
    t.texts.approachA = codes "Stand back. A train is approaching." ∧
    t.texts.approachB = codes "Stand back. A train is approaching." ∧
    (∀ i, t.approach.get i =
      ⟨pins.approach.get i, pins.approach.get i, none, .off, Quad.const true, 10, 60, .clear, none, none⟩) ∧
    ∀ f, (t.face f).record = ⟨0, ⟨.head, .calls, .follow, .notice⟩, 30, 3, false, false, none, .b0, .none⟩ ∧
      (t.face f).lines = Quad.const ⟨false, false, false, .idle⟩ ∧ (t.face f).rotation = ⟨0, none⟩ ∧
      (t.face f).overrides = [] ∧ (t.face f).page = 0 ∧ (t.face f).pageTimer = none ∧ (t.face f).warning = none ∧
      (t.face f).bright = ⟨false, 32, false, 0, none, none⟩ ∧
      (t.face f).panel =
        ⟨.unbound, .none, false, none, none, none, none, none, none, none, pins.sense.get f, none⟩

/-- The state after reset is safe. The levels of its input pins are the model's choice (notes/assumptions/1.md). -/
def Obligations.ResetIsSafe : Prop := State.reset.Safe

/-- RESTART ALL: the values of power-on, with the port's counters, address and rate kept, the approach levels kept, and a
shutdown tail on each face that was LIVE or RETIRING, which asks for DARK and SLEEP, or for those of a retire that still
wait. A face that was WAKING, OFF, FAULTED or ABSENT has its output OFF and no message waiting (R182); that a tail of an
UNBOUND face goes on, and whose SLEEP is under way, is the model's deduction (notes/assumptions/15.md), and that the commands
which wait stay its choice (notes/assumptions/6.md); that raisings are counted from 0 again is its deduction
(notes/assumptions/21.md). -/
def Obligations.RestartAllResets : Prop :=
  ∀ (s : State) (addr : Nat), s.takesFrame addr = true →
    ∃ t, exec (.restartAll addr (.fields ())) s = .next t ∧
      t.port =
        { s.port with
          receiver := .idle
          silence := .running 90
          reply := if addr = 0 then s.port.reply else some ⟨Kind.restart, .done, 0, .none⟩ } ∧
      t.clock = ⟨false, 0, 0, 0, 0, none⟩ ∧ t.nextStamp = 0 ∧
      t.services = [] ∧ t.order = [] ∧ t.freeCells = 640 ∧ t.places = [] ∧
      t.strikes = [] ∧ t.scan = none ∧ t.glyphs = List.replicate 32 ⟨6, List.replicate 16 0⟩ ∧ t.notices = [] ∧
      t.engine = ⟨none, []⟩ ∧ t.curve = State.reset.curve ∧ t.timing = ⟨6, 1, 90, 400, 40, 1500, 20, 5⟩ ∧
      t.texts = State.reset.texts ∧ t.pending = s.pending ∧
      (∀ i, t.approach.get i =
        ⟨(s.approach.get i).raw, (s.approach.get i).debounced, (s.approach.get i).debounce, .off, Quad.const true, 10, 60,
          .clear, none, none⟩) ∧
      ∀ f, (t.face f).record = FaceRecord.initial ∧ (t.face f).lines = Quad.const ⟨false, false, false, .idle⟩ ∧
        (t.face f).rotation = ⟨0, none⟩ ∧ (t.face f).overrides = [] ∧ (t.face f).page = 0 ∧ (t.face f).pageTimer = none ∧
        (t.face f).warning = none ∧ (t.face f).bright = Brightness.initial ∧
        (t.face f).panel.mode = .unbound ∧ (t.face f).panel.cause = .none ∧
        (t.face f).panel.sense = (s.face f).panel.sense ∧
        (t.face f).panel.power = (t.face f).panel.tail.isSome ∧
        ((s.face f).panel.mode = .live →
          (t.face f).panel.tail = some ⟨(s.face f).record.panelId, none⟩ ∧
          ⟨f, true, (s.face f).record.panelId, .sleep⟩ ∈ t.link.waiting ∧
          (⟨f, true, (s.face f).record.panelId, .dark⟩ ∈ t.link.waiting ∨
            t.link.tx = .sending (.dark (s.face f).record.panelId) (some (.tail f)))) ∧
        ((s.face f).panel.mode = .retiring →
          (t.face f).panel.tail =
            some ⟨(s.face f).record.panelId, if s.messageWaits f .sleep || s.sendsSleep f then none else some 100⟩ ∧
          (∀ k, k = .dark ∨ k = .sleep →
            (s.messageWaits f k = true →
              ⟨f, true, (s.face f).record.panelId, k⟩ ∈ t.link.waiting ∨
                t.link.tx =
                  .sending (t.supMessage ⟨f, true, (s.face f).record.panelId, k⟩) (some (.tail f))) ∧
            (s.messageWaits f k = false → ∀ m ∈ t.link.waiting, m.face = f → m.kind ≠ k)) ∧
          ∀ m ∈ t.link.waiting, m.face = f → m.tail = true ∧ (m.kind = .dark ∨ m.kind = .sleep)) ∧
        ((s.face f).panel.mode = .waking ∨ (s.face f).panel.mode = .off ∨ (s.face f).panel.mode = .faulted ∨
            (s.face f).panel.mode = .absent →
          (t.face f).panel.tail = none ∧ (t.face f).panel.power = false ∧ ∀ m ∈ t.link.waiting, m.face ≠ f) ∧
        ((s.face f).panel.mode = .unbound → (t.face f).panel.tail = (s.face f).panel.tail)

/-- RESTART CONTENT clears what the station has loaded and keeps its configuration: the settings, the curve, the glyphs, the
places, each input's sensitivity, mask, hold, duration, levels and debounce (R164), each face's record, and the supervisor as
it is, with modes, targets, present levels and pending reports; the level-3 states follow the lists, and so do the effective
targets and the ramps (R176, R181). Every area is started, every page restarts, and every existing line of a LIVE face is
stale afterwards. The engine starts again from an empty history, and each LIVE face with a line asks for its frame; a panel
message under way goes on, and those of the supervisor that wait stay (R133, R150). -/
def Obligations.RestartContentClears : Prop :=
  ∀ (s : State) (addr : Nat), s.takesFrame addr = true →
    ∃ t, exec (.restartContent addr (.fields ())) s = .next t ∧
      s.answered t Kind.restart addr .done .none ∧ t.notices = [] ∧
      t.services = [] ∧ t.order = [] ∧ t.freeCells = 640 ∧ t.strikes = [] ∧ t.scan = none ∧
      t.places = s.places.map (fun p => { p with refs := 0 }) ∧
      t.texts = { s.texts with notice := [], disruption := [], warning := [] } ∧
      s.changesOnly t
        [.services, .order, .freeCells, .places, .strikes, .scan, .faces, .engine, .link, .texts, .stamps, .approach,
          .port, .notices] ∧
      (∀ q, t.engine.render = some q → q.isFresh ∧ t.engine.history = [q.face]) ∧
      (t.engine.render = none → t.engine.history = []) ∧
      (∀ f, ((s.face f).live = true → (∃ j, (s.face f).hasLine j = true) → (t.face f).record.request ≠ .none) ∧
        ((s.face f).live = false → (t.face f).record.request = .none)) ∧
      (∀ m o, s.link.tx = .sending m o →
        t.link.tx = .sending m (if o = some .engine then none else o) ∧ t.link.waiting = s.link.waiting) ∧
      (∀ i, (t.approach.get i).state =
          (if (s.approach.get i).sensitivity = .low ∧ (s.approach.get i).debounced = false then .active else .clear) ∧
        (t.approach.get i).holdTimer = none ∧ (t.approach.get i).durationTimer = none ∧
        (t.approach.get i).raw = (s.approach.get i).raw ∧ (t.approach.get i).debounced = (s.approach.get i).debounced ∧
        (t.approach.get i).debounce = (s.approach.get i).debounce ∧
        (t.approach.get i).sensitivity = (s.approach.get i).sensitivity ∧
        (t.approach.get i).mask = (s.approach.get i).mask ∧ (t.approach.get i).hold = (s.approach.get i).hold ∧
        (t.approach.get i).duration = (s.approach.get i).duration ∧
        ∀ f, (t.face f).holds (sourceOf i) =
          (decide ((t.approach.get i).state = .active) && (s.approach.get i).mask.get f)) ∧
      ∀ f, (s.face f).changesOnly (t.face f)
          [.request, .flags, .clipped, .scrolls, .rotation, .overrides, .paging, .warning, .bright] ∧
        (t.face f).rotation = ⟨0, none⟩ ∧ (t.face f).warning = none ∧ (t.face f).page = 0 ∧
        (t.face f).pageTimer =
          (if (t.face f).live ∧ (t.face f).currentOverride.isSome then some s.timing.pageDwell else none) ∧
        (t.face f).bright.auto = (s.face f).bright.auto ∧ (t.face f).bright.target = (s.face f).bright.target ∧
        (t.face f).bright.present = (s.face f).bright.present ∧ (t.face f).bright.report = (s.face f).bright.report ∧
        (t.face f).bright.level3 = (if t.level3 f = s.level3 f then (s.face f).bright.level3 else t.level3 f) ∧
        (t.face f).bright.ramp =
          (if (s.face f).live ∧ (t.face f).bright.effective ≠ (s.face f).bright.effective ∧
              (s.face f).bright.ramp = none then
            some s.timing.rampStep
          else (s.face f).bright.ramp) ∧
        (t.face f).holds .stationNotice = false ∧ (t.face f).holds .stationDisruption = false ∧
        (t.face f).holds .stationWarning = false ∧ (t.face f).holds .feedLost = false ∧
        ∀ j, ((t.face f).lines.get j).clipped = false ∧
          ((t.face f).lines.get j).scroll.startsWith
            ((8000 + (s.face f).record.speed) / (2 * (s.face f).record.speed)) (t.measureArea (t.face f) j) ∧
          ((s.face f).live = true → (s.face f).hasLine j = true → t.staleLine f j)

/-! ### The service table and the clock (chapter 1) -/

/-- TIME out of range is refused with FORMAT. One in range sets the clock: the first one makes it VALID at 1440 plus the
minute of day, and a later one steps PMC by d. Only a forward step touches the table, through the expiry check, which removes
exactly the services that have expired at the new PMC; the NOTICE lines, and the lines of services whose due status turns,
are marked (R11 to R13, R15, R16, R127). -/
def Obligations.TimeSetsTheClock : Prop :=
  (∀ (s : State) (addr h m sec : Nat), s.takesFrame addr = true → 23 < h ∨ 59 < m ∨ 59 < sec →
    ∃ t, exec (.time addr (.fields ⟨h, m, sec⟩)) s = .next t ∧ s.refuses t Kind.time addr .format) ∧
  ∀ (s : State) (addr h m sec : Nat), s.takesFrame addr = true → h ≤ 23 → m ≤ 59 → sec ≤ 59 →
    ∃ t, exec (.time addr (.fields ⟨h, m, sec⟩)) s = .next t ∧
      s.carriesOut t Kind.time addr .done .none
        [.clock, .services, .order, .freeCells, .places, .notices] [.rotation, .scrolls, .flags] ∧
      t.clock.valid = true ∧ t.clock.hours = h ∧ t.clock.minutes = m ∧ t.clock.seconds = sec ∧
      t.clock.second = some 1000 ∧
      (s.clock.valid = false → t.clock.pmc = 1440 + (h * 60 + m)) ∧
      (s.clock.valid = true → h * 60 + m = s.clock.minuteOfDay → t.clock.pmc = s.clock.pmc) ∧
      (s.clock.valid = true → h * 60 + m ≠ s.clock.minuteOfDay →
        ∃ d : Int, -720 ≤ d ∧ d ≤ 719 ∧ (∃ k : Int, s.clock.minuteOfDay + d = (h * 60 + m : Nat) + 1440 * k) ∧
          (t.clock.pmc : Int) = min 16777215 (max 0 (s.clock.pmc + d))) ∧
      ((s.clock.valid = false ∨ timeStep (h * 60 + m) s.clock.minuteOfDay ≤ 0) →
        s.beginGoodFrame.changesOnly t (.clock :: .port :: settleBlocks)) ∧
      (s.TableInv → s.clock.valid = true → 0 < timeStep (h * 60 + m) s.clock.minuteOfDay →
        s.expires t s.beginGoodFrame.notices ∧ s.beginGoodFrame.marksOrder t) ∧
      (s.clock.valid = true → ∀ v ∈ t.services, v.due s.clock.pmc ≠ v.due t.clock.pmc →
        s.beginGoodFrame.marksService t v.slot [.head, .calls, .follow]) ∧
      ((s.clock.valid = false ∨ h * 60 + m ≠ s.clock.minuteOfDay ∨ sec ≠ s.clock.seconds) →
        ∀ f j, (s.beginGoodFrame.face f).showsRole j .notice → t.staleLine f j)

/-- A second boundary of a VALID clock: the next second, or the next minute with PMC one on; an INVALID clock stands. Short
of a rollover the table, the cells, the references and the notices are untouched. A rollover removes exactly the services
whose clear-down, or hold of four hours, has passed, and posts SERVICE_EXPIRED for each; the lines of services whose due
status turns are marked (R9, R14 to R16, R127). -/
def Obligations.ClockSecondAdvances : Prop :=
  ∀ s : State,
    (s.clock.valid = false → exec .clockSecond s = .next s) ∧
    (s.clock.valid = true →
      ∃ t, exec .clockSecond s = .next t ∧
        s.eventChanges t [.clock, .services, .order, .freeCells, .places, .notices] [.rotation, .scrolls, .flags] ∧
        (s.clock.seconds + 1 < 60 →
          t.clock = { s.clock with seconds := s.clock.seconds + 1 } ∧ s.changesOnly t (.clock :: settleBlocks)) ∧
        (60 ≤ s.clock.seconds + 1 →
          t.clock.minuteOfDay = (s.clock.minuteOfDay + 1) % 1440 ∧ t.clock.minutes < 60 ∧ t.clock.seconds = 0 ∧
          t.clock.pmc = min 16777215 (s.clock.pmc + 1)) ∧
        (∀ f j, (s.face f).showsRole j .notice → t.staleLine f j) ∧
        (s.TableInv → 60 ≤ s.clock.seconds + 1 →
          s.expires t s.notices ∧ s.marksOrder t ∧
          ∀ v ∈ t.services, v.due s.clock.pmc ≠ v.due t.clock.pmc → s.marksService t v.slot [.head, .calls, .follow]))

/-- Which POST bodies are well formed past the places (R17, step 3), a field left off being read as 0 or as an empty text,
and the service such a body describes (R18): its times are converted against the clock by the window of R10, which lies from
−120 to 1319 and differs from its argument by whole days. -/
def Obligations.PostReadsItsFields : Prop :=
  (∀ x : Int, -120 ≤ window x ∧ window x ≤ 1319 ∧ ∃ k : Int, window x = x + 1440 * k) ∧
  (∀ (c1 d2 c2 : Nat) (r : Text),
    postRest .afterDest1 = ⟨0, 0, 0, []⟩ ∧ postRest (.afterCoaches1 c1) = ⟨c1, 0, 0, []⟩ ∧
    postRest (.afterDest2 c1 d2) = ⟨c1, d2, 0, []⟩ ∧ postRest (.afterCoaches2 c1 d2 c2) = ⟨c1, d2, c2, []⟩ ∧
    postRest (.afterReason c1 d2 c2 r) = ⟨c1, d2, c2, r⟩) ∧
  (∀ (c : Clock) (b : PostBody), (postService c b).isSome = true ↔
    b.handle ≠ 0 ∧ b.sched.hours ≤ 23 ∧ b.sched.minutes ≤ 59 ∧ b.state ≤ 3 ∧
    ((b.expected.hours = 255 ∧ b.expected.minutes = 255 ∧ b.state ≠ 1) ∨
      (b.expected.hours ≤ 23 ∧ b.expected.minutes ≤ 59)) ∧
    (b.portions = 1 ∨ (b.portions = 2 ∧ (postRest b.tail).dest2 ≠ 0 ∧ (postRest b.tail).coaches2 ≤ 16)) ∧
    (postRest b.tail).coaches1 ≤ 16 ∧ (postRest b.tail).reason.length ≤ 48 ∧
    (postRest b.tail).reason.all codeAllowed = true) ∧
  ∀ (c : Clock) (b : PostBody) (v : Service), postService c b = some v →
    v.front = ⟨b.dest1, if (postRest b.tail).coaches1 = 0 then none else some (postRest b.tail).coaches1⟩ ∧
    (b.portions = 1 → v.rear = none) ∧
    (b.portions = 2 → v.rear = some
      ⟨(postRest b.tail).dest2, if (postRest b.tail).coaches2 = 0 then none else some (postRest b.tail).coaches2⟩) ∧
    v.reason = (if (postRest b.tail).reason = [] then none else some (postRest b.tail).reason) ∧
    v.handle = b.handle ∧ b.handle ≠ 0 ∧ b.sched.hours ≤ 23 ∧ b.sched.minutes ≤ 59 ∧
    v.sched = b.sched.hours * 60 + b.sched.minutes ∧
    v.schedAbs = c.pmc + window ((v.sched : Int) - c.minuteOfDay) ∧
    v.front.dest = b.dest1 ∧ (b.portions = 1 ∨ b.portions = 2) ∧ (v.rear.isSome = true ↔ b.portions = 2) ∧
    v.active = none ∧ v.load = none ∧ (∀ r, v.reason = some r → 1 ≤ r.length ∧ r.length ≤ 48 ∧ r.all codeAllowed = true) ∧
    (b.state = 0 → v.state = .onTime) ∧ (b.state = 2 → v.state = .delayed) ∧ (b.state = 3 → v.state = .cancelled) ∧
    (b.state = 1 →
      ∃ m, m = b.expected.hours * 60 + b.expected.minutes ∧ m < 1440 ∧
        v.state = .expected m (v.schedAbs + window ((m : Int) - v.sched)))

/-- POST is checked in its order: clock, places, form, a free slot, expiry; a new handle that passes makes a service in the
lowest free slot (R17, R19). Step 2 looks at destination1, and at destination2 where it is carried and the portion count is
not 1 (R17). A service has expired when PMC has passed its effective minute by more than the clear-down, and in state DELAYED
its scheduled absolute minute by more than 240; the effective minute is the expected absolute minute in state EXPECTED and
otherwise the scheduled one (R5, R15). -/
def Obligations.PostCreatesInLowestSlot : Prop :=
  (∀ (pmc clearDown : Nat) (v : Service),
    (v.expired pmc clearDown = true ↔
      (v.state = .delayed ∧ 240 < (pmc : Int) - v.schedAbs) ∨
        (v.state ≠ .delayed ∧ (clearDown : Int) < (pmc : Int) - v.effAbs)) ∧
    (∀ m abs, v.state = .expected m abs → v.effAbs = abs) ∧
    (v.state = .onTime ∨ v.state = .delayed ∨ v.state = .cancelled → v.effAbs = v.schedAbs)) ∧
  (∀ (s : State) (b : PostBody), s.postNamesNoPlace b = true ↔
    (∀ p ∈ s.places, p.id ≠ b.dest1) ∨
      ((postRest b.tail).dest2 ≠ 0 ∧ b.portions ≠ 1 ∧ ∀ p ∈ s.places, p.id ≠ (postRest b.tail).dest2)) ∧
  (∀ (v : Service) (vs : List Service), vs.Pairwise (fun x y => x.slot < y.slot) → (∀ w ∈ vs, w.slot ≠ v.slot) →
    (insertBySlot v vs).Perm (v :: vs) ∧ (insertBySlot v vs).Pairwise fun x y => x.slot < y.slot) ∧
  ∀ (s : State) (addr : Nat) (b : PostBody), s.takesFrame addr = true →
    ∃ t, exec (.post addr (.fields b)) s = .next t ∧
      (s.clock.valid = false → s.refuses t Kind.post addr .state) ∧
      (s.clock.valid = true → s.postNamesNoPlace b = true → s.refuses t Kind.post addr .noPlace) ∧
      (s.clock.valid = true → s.postNamesNoPlace b = false → postService s.clock b = none →
        s.refuses t Kind.post addr .format) ∧
      ∀ v, s.clock.valid = true → s.postNamesNoPlace b = false → postService s.clock b = some v →
        (s.handleService b.handle = none → (∀ k < 24, ∃ w ∈ s.services, w.slot = k) → s.refuses t Kind.post addr .full) ∧
        ((s.handleService b.handle ≠ none ∨ ∃ k < 24, ∀ w ∈ s.services, w.slot ≠ k) →
          v.expired s.clock.pmc s.timing.clearDown = true → s.refuses t Kind.post addr .range) ∧
        ∀ slot, s.handleService b.handle = none → slot < 24 → (∀ w ∈ s.services, w.slot ≠ slot) →
          (∀ k < slot, ∃ w ∈ s.services, w.slot = k) → v.expired s.clock.pmc s.timing.clearDown = false →
          s.carriesOut t Kind.post addr .done (.slot slot) [.services, .order, .places] [.rotation, .scrolls, .flags] ∧
          t.services = insertBySlot { v with slot := slot } s.services ∧ t.order = displayOrder t.services ∧
          s.beginGoodFrame.marksOrder t ∧
          t.places = s.places.map (fun p => { p with refs := p.refs + v.dests.count p.id })

/-- POST of a handle in the table, and AMEND, replace the head fields and keep the slot, the patterns and the load; the lines
that show a changed service are marked (R20, R22, R127). AMEND is refused with UNKNOWN, FORMAT and RANGE in this order (R21).
That a change of an absolute minute alone counts as a change is the model's deduction (notes/assumptions/18.md). -/
def Obligations.HeadFieldsAreReplaced : Prop :=
  (∀ (s : State) (addr : Nat) (b : AmendBody), s.takesFrame addr = true →
    ∃ t, exec (.amend addr (.fields b)) s = .next t ∧
      (s.handleService b.handle = none → s.refuses t Kind.amend addr .unknown) ∧
      ∀ old, s.handleService b.handle = some old →
        (amendedService old b = none → s.refuses t Kind.amend addr .format) ∧
        (∀ new, amendedService old b = some new → new.expired s.clock.pmc s.timing.clearDown = true →
          s.refuses t Kind.amend addr .range) ∧
        ((amendedService old b).isSome = true ↔
          b.state ≤ 3 ∧
          ((b.expected.hours = 255 ∧ b.expected.minutes = 255 ∧ b.state ≠ 1) ∨
            (b.expected.hours ≤ 23 ∧ b.expected.minutes ≤ 59)) ∧
          b.action ≤ 2 ∧ (b.action = 2 → textAllowed 1 48 b.reason = true))) ∧
  ∀ (s : State) (addr : Nat) (old new : Service), s.takesFrame addr = true → s.handleService old.handle = some old →
    new.expired s.clock.pmc s.timing.clearDown = false →
    (∀ b v, b.handle = old.handle → s.clock.valid = true → s.postNamesNoPlace b = false →
      postService s.clock b = some v → new = { v with slot := old.slot, active := old.active, load := old.load } →
      ∃ t, exec (.post addr (.fields b)) s = .next t ∧
        s.carriesOut t Kind.post addr .done (.slot old.slot) [.services, .order, .places]
          [.rotation, .scrolls, .flags] ∧
        t.services = s.services.map (fun w => if w.slot = old.slot then new else w) ∧
        t.order = displayOrder t.services ∧
        s.beginGoodFrame.marksOrder t ∧
        (new ≠ old → s.beginGoodFrame.marksService t old.slot [.head, .calls, .follow]) ∧
        t.places = s.places.map
          (fun p => { p with refs := p.refs - old.dests.count p.id + new.dests.count p.id })) ∧
    (∀ b, b.handle = old.handle → amendedService old b = some new →
      (b.state = 0 → new.state = .onTime) ∧ (b.state = 2 → new.state = .delayed) ∧ (b.state = 3 → new.state = .cancelled) ∧
      (b.state = 1 →
        new.state = .expected (b.expected.hours * 60 + b.expected.minutes)
          (old.schedAbs + window (((b.expected.hours * 60 + b.expected.minutes : Nat) : Int) - old.sched))) ∧
      new.slot = old.slot ∧ new.handle = old.handle ∧ new.sched = old.sched ∧ new.schedAbs = old.schedAbs ∧
      new.front = old.front ∧ new.rear = old.rear ∧ new.active = old.active ∧ new.load = old.load ∧
      (b.action = 0 → new.reason = old.reason) ∧ (b.action = 1 → new.reason = none) ∧
      (b.action = 2 → new.reason = some b.reason) ∧
      ∃ t, exec (.amend addr (.fields b)) s = .next t ∧
        s.carriesOut t Kind.amend addr .done .none [.services, .order, .places] [.rotation, .scrolls, .flags] ∧
        t.services = s.services.map (fun w => if w.slot = old.slot then new else w) ∧
        s.beginGoodFrame.marksOrder t ∧
        (new ≠ old → s.beginGoodFrame.marksService t old.slot [.head, .calls, .follow]) ∧
        (s.PlacesInv → t.places = s.places) ∧
        t.order = displayOrder t.services)

/-- DROP frees the slot, the cells and the references, and posts no notice (R23, R43). A service refers to the place of each
of its portions and of each entry of its active and pending patterns, and each entry takes a cell (R28, R48). -/
def Obligations.DropRemovesTheService : Prop :=
  (∀ v : Service,
    v.activeEntries = v.active.getD [] ∧ v.pendingEntries = ((v.load.map Load.entries).getD []) ∧
    v.dests = v.front.dest :: (v.rear.map Portion.dest).toList ∧
    v.refs = v.dests ++ (v.activeEntries ++ v.pendingEntries).map Entry.place ∧
    v.cells = (v.activeEntries ++ v.pendingEntries).length) ∧
  ∀ (s : State) (addr h : Nat), s.takesFrame addr = true →
    ∃ t, exec (.drop addr (.fields h)) s = .next t ∧
      (s.handleService h = none → s.refuses t Kind.drop addr .unknown) ∧
      ∀ v, s.handleService h = some v →
        s.carriesOut t Kind.drop addr .done .none [.services, .order, .freeCells, .places]
          [.rotation, .scrolls, .flags] ∧
        t.services = s.services.filter (fun w => w.slot ≠ v.slot) ∧ t.order = displayOrder t.services ∧
        s.beginGoodFrame.marksOrder t ∧ t.freeCells = s.freeCells + v.cells ∧
        t.places = s.places.map (fun p => { p with refs := p.refs - v.refs.count p.id })

/-- READ and LIST report and change nothing but the port, and are refused in the order of their checks (R24, R45); a
broadcast of either has no effect beyond the first two steps of its frame (R190). A service is due when it is ON_TIME or
EXPECTED and PMC has reached its effective minute; its status is the first row of R8's table that holds; its display position
counts from 1 (R6). -/
def Obligations.ReadAndListOnlyReport : Prop :=
  (∀ (pmc : Nat) (v : Service),
    (v.due pmc = true ↔ v.state ≠ .delayed ∧ v.state ≠ .cancelled ∧ v.effAbs ≤ pmc) ∧
    (v.state = .cancelled → v.status pmc = .cancelled) ∧ (v.state = .delayed → v.status pmc = .delayed) ∧
    (v.due pmc = true → v.status pmc = .due) ∧
    (v.state = .onTime → v.due pmc = false → v.status pmc = .onTime) ∧
    ∀ m abs, v.state = .expected m abs → v.due pmc = false → v.status pmc = if m = v.sched then .onTime else .expected) ∧
  (∀ (s : State) (p slot : Nat), s.order.Nodup → s.order[p]? = some slot →
    s.positionOf slot = p + 1 ∧ s.serviceAt (p + 1) = s.services.find? fun v => v.slot == slot) ∧
  (∀ (s : State) (addr : Nat) (b : ReadBody), s.takesFrame addr = true →
    ∃ t, exec (.read addr (.fields b)) s = .next t ∧
      (addr = 0 → t = s.closeFrame s.beginGoodFrame false) ∧
      (addr ≠ 0 →
        (2 ≤ b.selector → s.refuses t Kind.read addr .format) ∧
        (b.selector = 0 → s.handleService b.value = none → s.refuses t Kind.read addr .unknown) ∧
        (b.selector = 1 → b.value = 0 ∨ 24 < b.value → s.refuses t Kind.read addr .range) ∧
        (b.selector = 1 → 1 ≤ b.value → b.value ≤ 24 → s.serviceAt b.value = none →
          s.refuses t Kind.read addr .unknown))) ∧
  (∀ (s : State) (addr : Nat) (b : ListBody), s.takesFrame addr = true →
    ∃ t, exec (.list addr (.fields b)) s = .next t ∧
      (addr = 0 → t = s.closeFrame s.beginGoodFrame false) ∧
      (addr ≠ 0 →
        (2 ≤ b.source → s.refuses t Kind.list addr .format) ∧
        (b.source ≤ 1 → 47 < b.start → s.refuses t Kind.list addr .range) ∧
        (b.source ≤ 1 → b.start ≤ 47 → s.handleService b.handle = none → s.refuses t Kind.list addr .unknown) ∧
        ∀ v, b.source = 1 → b.start ≤ 47 → s.handleService b.handle = some v → v.load = none →
          s.refuses t Kind.list addr .state)) ∧
  ∀ (s : State) (addr : Nat) (v : Service), s.takesFrame addr = true → addr ≠ 0 →
    (s.handleService v.handle = some v →
      ∃ t, exec (.read addr (.fields ⟨0, v.handle⟩)) s = .next t ∧
        s.onlyAnswers t Kind.read addr .done
          (.read
            ⟨v.handle, v.sched, v.state, v.front, v.rear, v.reason, v.slot, s.positionOf v.slot, v.status s.clock.pmc,
              v.active.isSome, v.activeEntries.length, v.load.isSome⟩)) ∧
    (∀ p, 1 ≤ p → p ≤ 24 → s.serviceAt p = some v →
      ∃ t, exec (.read addr (.fields ⟨1, p⟩)) s = .next t ∧
        s.onlyAnswers t Kind.read addr .done
          (.read
            ⟨v.handle, v.sched, v.state, v.front, v.rear, v.reason, v.slot, s.positionOf v.slot, v.status s.clock.pmc,
              v.active.isSome, v.activeEntries.length, v.load.isSome⟩)) ∧
    (∀ start, start ≤ 47 → s.handleService v.handle = some v →
      ∃ t, exec (.list addr (.fields ⟨v.handle, 0, start⟩)) s = .next t ∧
        s.onlyAnswers t Kind.list addr .done
          (.list false v.active.isSome v.activeEntries.length start ((v.activeEntries.drop start).take 24))) ∧
    (∀ start, start ≤ 47 → s.handleService v.handle = some v → v.load.isSome = true →
      ∃ t, exec (.list addr (.fields ⟨v.handle, 1, start⟩)) s = .next t ∧
        s.onlyAnswers t Kind.list addr .done
          (.list true true v.pendingEntries.length start ((v.pendingEntries.drop start).take 24)))

/-! ### Calling patterns (chapter 2) -/

/-- CALLS: the entries go into the pending pattern in key order, each in place of the entry with its key, the last of several
with one key being kept and the others staying; an entry is CALLING, or LISTED when its flag is set (R36). Cells and
references follow. Without END the idle timer restarts and the active pattern stays. With END the pending pattern becomes the
active one, each CALLING entry struck by the lowest ACTIVE strike that matches; the old cells and references go back, the
context with its timer is gone, and the CALLS lines that show the service are marked (R35, R36, R39 to R41, R127). The checks
come in their order, and a refused request changes nothing (R32, R33, R37, R38). -/
def Obligations.CallsExtendsThePending : Prop :=
  (∀ p es : List Entry, p.Pairwise (fun d e => d.key < e.key) →
    (extendPending p es).Pairwise (fun d e => d.key < e.key) ∧
    ∀ e, e ∈ extendPending p es ↔
      (∃ n, es[n]? = some e ∧ ∀ d ∈ es.drop (n + 1), d.key ≠ e.key) ∨ (e ∈ p ∧ ∀ d ∈ es, d.key ≠ e.key)) ∧
  (∀ (rs : List RawEntry) (es : List Entry), entriesOf rs = some es →
    es.map Entry.key = rs.map RawEntry.key ∧ es.map Entry.place = rs.map RawEntry.place ∧
    es.map (fun e => e.mask.code) = rs.map RawEntry.mask ∧
    es.map Entry.time = rs.map (fun r =>
      if r.time.hours = 255 ∧ r.time.minutes = 255 then none else some (r.time.hours * 60 + r.time.minutes)) ∧
    es.map Entry.mark = rs.map (fun r => if r.listed then .listed else .calling)) ∧
  (∀ s : State, s.openLoads = (s.services.filter fun v => v.load.isSome).length) ∧
  (∀ rs : List RawEntry, entriesOf rs = none ↔
    ∃ r ∈ rs, 2 < r.mask ∨
      (¬(r.time.hours = 255 ∧ r.time.minutes = 255) ∧ (23 < r.time.hours ∨ 59 < r.time.minutes))) ∧
  (∀ (s : State) (addr : Nat) (b : CallsBody), s.takesFrame addr = true →
    ∃ t, exec (.calls addr (.fields b)) s = .next t ∧
      (24 < b.entries.length → s.refuses t Kind.calls addr .format) ∧
      (b.entries.length ≤ 24 → s.handleService b.handle = none → s.refuses t Kind.calls addr .unknown) ∧
      ∀ v, b.entries.length ≤ 24 → s.handleService b.handle = some v →
        (v.load = none → 4 ≤ s.openLoads → s.refuses t Kind.calls addr .busy) ∧
        (v.load.isSome = true ∨ s.openLoads < 4 →
          (entriesOf b.entries = none → s.refuses t Kind.calls addr .format) ∧
          ∀ es after, entriesOf b.entries = some es →
            after = extendPending (if b.fresh then [] else v.pendingEntries) es →
            ((∃ e ∈ es, s.hasPlace e.place = false) → s.refuses t Kind.calls addr .noPlace) ∧
            ((∀ e ∈ es, s.hasPlace e.place = true) →
              48 < after.length ∨ s.freeCells + v.pendingEntries.length < after.length →
              s.refuses t Kind.calls addr .full))) ∧
  ∀ (s : State) (addr : Nat) (b : CallsBody) (v : Service) (es after : List Entry), s.TableInv → s.takesFrame addr = true →
    b.entries.length ≤ 24 → s.handleService b.handle = some v →
    (v.load.isSome = true ∨ s.openLoads < 4) → entriesOf b.entries = some es →
    (∀ e ∈ es, s.hasPlace e.place = true) →
    after = extendPending (if b.fresh then [] else v.pendingEntries) es → after.length ≤ 48 →
    after.length ≤ s.freeCells + v.pendingEntries.length →
    ∃ t, exec (.calls addr (.fields b)) s = .next t ∧
      (b.close = false →
        s.carriesOut t Kind.calls addr .done
          (.calls true after.length v.active.isSome v.activeEntries.length t.freeCells)
          [.services, .freeCells, .places] [] ∧
        t.services = s.services.map
          (fun w => if w.slot = v.slot then { v with load := some ⟨after, some s.timing.loadIdle⟩ } else w) ∧
        t.freeCells + after.length = s.freeCells + v.pendingEntries.length ∧
        t.places = s.places.map (fun p =>
          { p with
            refs :=
              p.refs - (v.pendingEntries.map Entry.place).count p.id + (after.map Entry.place).count p.id })) ∧
      (b.close = true →
        s.carriesOut t Kind.calls addr .done (.calls false 0 true after.length t.freeCells)
          [.services, .freeCells, .places] [.scrolls, .flags] ∧
        t.services = s.services.map
          (fun w => if w.slot = v.slot then { v with active := some (after.map s.closeEntry), load := none } else w) ∧
        t.freeCells + after.length = s.freeCells + v.pendingEntries.length + v.activeEntries.length ∧
        t.places = s.places.map (fun p =>
          { p with
            refs :=
              p.refs - (v.pendingEntries.map Entry.place).count p.id + (after.map Entry.place).count p.id -
                (v.activeEntries.map Entry.place).count p.id }) ∧
        s.beginGoodFrame.marksService t v.slot [.calls] ∧
        ∀ e ∈ after, e.mark ≠ .calling → s.closeEntry e = e)

/-- ABANDON, and the expiry of a running idle timer, discard the load and keep the active pattern; only the expiry posts
PATTERN_LOST (R34, R42). ABANDON with no load open changes nothing, and is refused with FORMAT for its count and with UNKNOWN
(R32, R33). -/
def Obligations.LoadsAreDiscarded : Prop :=
  (∀ (s : State) (addr : Nat) (b : CallsBody), s.TableInv → s.takesFrame addr = true →
    ∃ t, exec (.callsAbandon addr (.fields b)) s = .next t ∧
      (24 < b.entries.length → s.refuses t Kind.calls addr .format) ∧
      (b.entries.length ≤ 24 → s.handleService b.handle = none → s.refuses t Kind.calls addr .unknown) ∧
      ∀ v, b.entries.length ≤ 24 → s.handleService b.handle = some v → v.load = none →
        s.carriesOut t Kind.calls addr .done (.calls false 0 v.active.isSome v.activeEntries.length s.freeCells) [] []) ∧
  ∀ (s : State) (v : Service) (l : Load), s.TableInv → v.load = some l →
    (∀ addr (b : CallsBody), s.takesFrame addr = true → b.entries.length ≤ 24 → s.handleService b.handle = some v →
      ∃ t, exec (.callsAbandon addr (.fields b)) s = .next t ∧
        s.carriesOut t Kind.calls addr .done (.calls false 0 v.active.isSome v.activeEntries.length t.freeCells)
          [.services, .freeCells, .places] [] ∧
        t.services = s.services.map (fun w => if w.slot = v.slot then { v with load := none } else w) ∧
        t.places = s.places.map (fun p => { p with refs := p.refs - (l.entries.map Entry.place).count p.id }) ∧
        t.freeCells = s.freeCells + l.entries.length) ∧
    (s.slotService v.slot = some v → l.idle.isSome = true →
      ∃ t, exec (.loadIdleTimeout v.slot) s = .next t ∧
        s.changesOnly t [.services, .freeCells, .places, .notices] ∧
        t.services = s.services.map (fun w => if w.slot = v.slot then { v with load := none } else w) ∧
        t.freeCells = s.freeCells + l.entries.length ∧
        t.places = s.places.map (fun p => { p with refs := p.refs - (l.entries.map Entry.place).count p.id }) ∧
        t.notices = postNotice (.patternLost v.slot v.handle) s.notices)

/-! ### Places and glyphs (chapter 3) -/

/-- PLACE applies its entries in order, keeps reference counts, and re-examines the marks of every active entry that names a
place whose code changed; pending patterns are left. The reply counts the entries and the marks changed, and the lines that
show a changed name or mark are marked (R49 to R52, R127). Its checks come in their order, each refusal with the position of
the entry at fault: for a collision the entry that gave a colliding code, or the later of two such. Where the manual leaves
the position open it is one of the positions it admits: of three or four entries that gave a colliding code any but the first
(R49, notes/assumptions/4.md). -/
def Obligations.PlaceStoresOrNamesTheFault : Prop :=
  (∀ p : RawPlace,
    (placeFormed p = true ↔
      (∀ c ∈ [p.code.c0, p.code.c1, p.code.c2], (65 ≤ c ∧ c ≤ 90) ∨ (48 ≤ c ∧ c ≤ 57)) ∧
        1 ≤ p.full.length ∧ p.full.length ≤ 32 ∧ p.short.length ≤ 16 ∧
        ∀ c ∈ p.full ++ p.short, (32 ≤ c ∧ c ≤ 126) ∨ (128 ≤ c ∧ c ≤ 159)) ∧
    (placeIdInRange p = true ↔ 1 ≤ p.id ∧ p.id ≤ 4095)) ∧
  (∀ dict : List PlaceEntry, sharesCode dict = true ↔ ∃ d ∈ dict, ∃ e ∈ dict, d.id ≠ e.id ∧ d.code = e.code) ∧
  (∀ (p : RawPlace) (ps : List RawPlace) (dict : List PlaceEntry),
    putPlaces (p :: ps) dict = putPlaces ps (putPlaces [p] dict) ∧
    (dict.Pairwise (fun d e => d.id < e.id) →
      (putPlaces [p] dict).Pairwise (fun d e => d.id < e.id) ∧
      (∀ d ∈ putPlaces [p] dict, d.id = p.id ∨ d ∈ dict) ∧ (∀ d ∈ dict, d.id ≠ p.id → d ∈ putPlaces [p] dict) ∧
      ⟨p.id, p.code, p.full, if p.short = [] then none else some p.short,
        ((dict.find? fun d => d.id == p.id).map PlaceEntry.refs).getD 0⟩ ∈ putPlaces [p] dict)) ∧
  (∀ (s : State) (addr : Nat) (ps : List RawPlace), s.takesFrame addr = true → 1 ≤ ps.length → ps.length ≤ 4 →
    (∀ p ∈ ps, placeFormed p = true ∧ 1 ≤ p.id ∧ p.id ≤ 4095) →
    sharesCode (putPlaces ps s.places) = false → (putPlaces ps s.places).length ≤ 400 →
    ∃ t marks judged, exec (.place addr (.fields ps)) s = .next t ∧
      s.carriesOut t Kind.place addr .done (.places t.places.length marks) [.services, .places] [.scrolls, .flags] ∧
      t.places = putPlaces ps s.places ∧
      t.services.map (fun v => { v with active := none }) = s.services.map (fun v => { v with active := none }) ∧
      judged = (fun e : Entry =>
        if (changedPlaces (fun d e => d.code != e.code) s.places t.places).contains e.place then
          { e with mark := t.judgedMark e }
        else e) ∧
      t.services = s.services.map (fun v => v.mapActive judged) ∧
      marks = (s.services.map fun v => (v.activeEntries.filter fun e => (judged e).mark ≠ e.mark).length).sum ∧
      (∀ v ∈ s.services, (∃ e ∈ v.activeEntries, (judged e).mark ≠ e.mark) →
        s.beginGoodFrame.marksService t v.slot [.calls]) ∧
      ∀ p ∈ s.places, ∀ q ∈ t.places, q.id = p.id → q.full ≠ p.full ∨ q.short ≠ p.short →
        s.beginGoodFrame.marksPlace t p.id) ∧
  (∀ (s : State) (addr : Nat) (ps : List RawPlace), s.takesFrame addr = true →
    ∃ t, exec (.place addr (.broken ps)) s = .next t ∧ (∃ p, s.refusesPlace t addr .format p ∧ 1 ≤ p ∧ p ≤ 4) ∧
      ∀ i q, i < 4 → ps[i]? = some q → placeFormed q = false → (∀ q' ∈ ps.take i, placeFormed q' = true) →
        s.refusesPlace t addr .format (i + 1)) ∧
  ∀ (s : State) (addr : Nat) (ps : List RawPlace), s.takesFrame addr = true →
    ∃ t, exec (.place addr (.fields ps)) s = .next t ∧
      (ps.length = 0 ∨ 4 < ps.length → ∃ p, s.refusesPlace t addr .format p ∧ 1 ≤ p ∧ p ≤ 4) ∧
      (∀ i q, i < 4 → ps[i]? = some q → placeFormed q = false → (∀ q' ∈ ps.take i, placeFormed q' = true) →
        s.refusesPlace t addr .format (i + 1)) ∧
      (1 ≤ ps.length → ps.length ≤ 4 →
        ((∀ q ∈ ps, placeFormed q = true) →
          (∀ i q, ps[i]? = some q → placeIdInRange q = false → (∀ q' ∈ ps.take i, placeIdInRange q' = true) →
            s.refusesPlace t addr .range (i + 1)) ∧
          ((∀ q ∈ ps, placeIdInRange q = true) →
            (sharesCode (putPlaces ps s.places) = true →
              (∃ p, s.refusesPlace t addr .duplicate p ∧ 1 ≤ p ∧ p ≤ ps.length ∧
                (sharesCode s.places = false → p ∈ duplicatePositions ps (putPlaces ps s.places)) ∧
                (s.PlacesInv → givesCollidingCode ps (putPlaces ps s.places) p ∧
                  ((∃ k, k ≠ p ∧ givesCollidingCode ps (putPlaces ps s.places) k) →
                    ∃ k < p, givesCollidingCode ps (putPlaces ps s.places) k))) ∧
              (∀ p, duplicatePositions ps (putPlaces ps s.places) = [p] → s.refusesPlace t addr .duplicate p) ∧
              ∀ i j, s.PlacesInv → i ≤ j → givesCollidingCode ps (putPlaces ps s.places) i →
                givesCollidingCode ps (putPlaces ps s.places) j →
                (∀ k, givesCollidingCode ps (putPlaces ps s.places) k → k = i ∨ k = j) →
                s.refusesPlace t addr .duplicate j) ∧
            (sharesCode (putPlaces ps s.places) = false → 400 < (putPlaces ps s.places).length →
              ∃ p, s.refusesPlace t addr .full p ∧ 1 ≤ p ∧ p ≤ ps.length ∧
                400 < (putPlaces (ps.take p) s.places).length ∧
                ∀ q, 1 ≤ q → q < p → (putPlaces (ps.take q) s.places).length ≤ 400))))

/-- UNPLACE: RANGE, UNKNOWN and IN_USE in this order, and otherwise the entry is gone and the reply counts the rest (R54). -/
def Obligations.UnplaceRemovesUnused : Prop :=
  ∀ (s : State) (addr id : Nat), s.takesFrame addr = true →
    ∃ t, exec (.unplace addr (.fields id)) s = .next t ∧
      (id = 0 ∨ 4095 < id → s.refuses t Kind.unplace addr .range) ∧
      (1 ≤ id → id ≤ 4095 → s.placeOf id = none → s.refuses t Kind.unplace addr .unknown) ∧
      ∀ p, 1 ≤ id → id ≤ 4095 → s.placeOf id = some p →
        (0 < p.refs → s.refuses t Kind.unplace addr .inUse) ∧
        (p.refs = 0 →
          s.carriesOut t Kind.unplace addr .done (.placeCount t.places.length) [.places] [] ∧
          t.places = s.places.filter fun q => q.id ≠ id)

/-- GLYPH stores the advance and the rows, columns at or beyond the advance unlit, and marks every existing line of every
LIVE face stale when it changes the glyph (R58, R127). It is refused with FORMAT for its rows, and with RANGE for its code
and its advance (R58). -/
def Obligations.GlyphIsStored : Prop :=
  (∀ (s : State) (addr : Nat) (b : GlyphBody), s.takesFrame addr = true →
    ∃ t, exec (.glyph addr (.fields b)) s = .next t ∧
      (b.rows.length ≠ 16 → s.refuses t Kind.glyph addr .format) ∧
      (b.rows.length = 16 → b.code < 128 ∨ 159 < b.code ∨ b.advance = 0 ∨ 12 < b.advance →
        s.refuses t Kind.glyph addr .range)) ∧
  ∀ (s : State) (addr : Nat) (b : GlyphBody), s.RangesInv → s.takesFrame addr = true → b.rows.length = 16 →
    128 ≤ b.code → b.code ≤ 159 → 1 ≤ b.advance → b.advance ≤ 12 →
    ∃ t u, exec (.glyph addr (.fields b)) s = .next t ∧
      s.carriesOut t Kind.glyph addr .done .none [.glyphs] [.scrolls, .flags] ∧
      t.glyphs = s.glyphs.set (b.code - 128) u ∧ u.advance = b.advance ∧ u.rows.length = 16 ∧
      (∀ row col, row < 16 → col < 12 →
        ((u.rows[row]?).getD 0).getLsbD (11 - col) =
          (decide (col < b.advance) && ((b.rows[row]?).getD 0).testBit (11 - col))) ∧
      (s.glyphs[b.code - 128]? = some u → s.emptyFrame.changesOnly t (.port :: settleBlocks) ∧
        s.emptyFrame.facesChangeOnly t [.request]) ∧
      (s.glyphs[b.code - 128]? ≠ some u →
        ∀ f j, (s.face f).live = true → (s.face f).hasLine j = true →
          t.staleLine f j)

/-! ### Standing strikes (chapter 4) -/

/-- A key matches a code when each of its characters is `?` or the code's character, judged against the code the place has at
the moment (R61). Where an entry gains a striker, it is the lowest-numbered ACTIVE strike that matches; where none matches it
is CALLING; a close, and the re-examination after a change of code, leave LISTED entries, and the latter keeps a striker that
still matches (R41, R52, R66, R71). -/
def Obligations.TheLowestMatchingStrikeIsChosen : Prop :=
  (∀ k c : Code3, keyMatches k c = true ↔
    (k.c0 = 63 ∨ k.c0 = c.c0) ∧ (k.c1 = 63 ∨ k.c1 = c.c1) ∧ (k.c2 = 63 ∨ k.c2 = c.c2)) ∧
  (∀ (s : State) (r : Strike) (place : Nat), s.strikeMatches r place = true ↔
    ∃ p, s.placeOf place = some p ∧ keyMatches r.key p.code = true) ∧
  (∀ c : Code3, keyMatches ⟨63, 63, 63⟩ c = true) ∧
  keyMatches ⟨69, 87, 63⟩ ⟨69, 87, 75⟩ = true ∧ keyMatches ⟨69, 87, 63⟩ ⟨69, 87, 66⟩ = true ∧
  keyMatches ⟨63, 84, 88⟩ ⟨69, 84, 88⟩ = true ∧ keyMatches ⟨63, 84, 88⟩ ⟨84, 84, 88⟩ = true ∧
  keyMatches ⟨63, 84, 88⟩ ⟨84, 88, 69⟩ = false ∧
  ∀ (s : State) (place : Nat), (s.strikes.Pairwise fun a b => a.id < b.id) →
    (∀ k, s.strikeMark place = .strike k ↔
      ∃ r ∈ s.strikes, r.id = k ∧ r.releasing = false ∧ s.strikeMatches r place = true ∧
        ∀ q ∈ s.strikes, q.releasing = false → s.strikeMatches q place = true → k ≤ q.id) ∧
    (s.strikeMark place = .calling ↔
      ∀ q ∈ s.strikes, q.releasing = false → s.strikeMatches q place = false) ∧
    ∀ e : Entry, (e.mark = .listed → s.closeEntry e = e ∧ s.judgedMark e = .listed) ∧
      (e.mark = .calling → s.closeEntry e = { e with mark := s.strikeMark e.place }) ∧
      (e.mark = .calling → s.judgedMark e = s.strikeMark e.place) ∧
      ∀ k, e.mark = .strike k →
        ((∃ r ∈ s.strikes, r.id = k ∧ s.strikeMatches r e.place = true) → s.judgedMark e = .strike k) ∧
        ((∀ r ∈ s.strikes, r.id = k → s.strikeMatches r e.place = false) → s.judgedMark e = s.strikeMark e.place)

/-- STRIKE: FORMAT, BUSY and FULL in this order, and otherwise a record with the lowest free id and its scan from slot 0.
RESTORE: RANGE, UNKNOWN and BUSY in this order, and otherwise the strike is RELEASING and its scan starts (R63, R64, R66). A
key is three characters, each A–Z, 0–9 or `?` (R60). -/
def Obligations.StrikeAndRestoreStartScans : Prop :=
  (∀ key : Code3, isStrikeKey key = true ↔
    ∀ c ∈ [key.c0, key.c1, key.c2], (65 ≤ c ∧ c ≤ 90) ∨ (48 ≤ c ∧ c ≤ 57) ∨ c = 63) ∧
  ∀ (s : State) (addr : Nat), s.takesFrame addr = true →
    (∀ key : Code3, ∃ t, exec (.strike addr (.fields key)) s = .next t ∧
      (isStrikeKey key = false → s.refuses t Kind.strike addr .format) ∧
      (isStrikeKey key = true → s.scan.isSome = true → s.refuses t Kind.strike addr .busy) ∧
      (isStrikeKey key = true → s.scan = none → (∀ k, 1 ≤ k → k ≤ 8 → ∃ r ∈ s.strikes, r.id = k) →
        s.refuses t Kind.strike addr .full) ∧
      ∀ k, isStrikeKey key = true → s.scan = none → 1 ≤ k → k ≤ 8 → (∀ r ∈ s.strikes, r.id ≠ k) →
        (∀ j, 1 ≤ j → j < k → ∃ r ∈ s.strikes, r.id = j) →
        s.carriesOut t Kind.strike addr .accepted (.strikeId k) [.strikes, .scan] [] ∧
        (∀ r, r ∈ t.strikes ↔ r = ⟨k, key, false⟩ ∨ r ∈ s.strikes) ∧ t.scan = some ⟨.strike, k, 0, 0, 0⟩) ∧
    ∀ k, ∃ t, exec (.restore addr (.fields k)) s = .next t ∧
      (k = 0 ∨ 8 < k → s.refuses t Kind.restore addr .range) ∧
      (1 ≤ k → k ≤ 8 → (∀ r ∈ s.strikes, r.id ≠ k) → s.refuses t Kind.restore addr .unknown) ∧
      (1 ≤ k → k ≤ 8 → (∃ r ∈ s.strikes, r.id = k) →
        (s.scan.isSome = true → s.refuses t Kind.restore addr .busy) ∧
        (s.scan = none →
          s.carriesOut t Kind.restore addr .accepted (.strikeId k) [.strikes, .scan] [] ∧
          t.strikes = s.strikes.map (fun r => if r.id = k then { r with releasing := true } else r) ∧
          t.scan = some ⟨.restore, k, 0, 0, 0⟩))

/-- A visit acts on the active pattern of its slot alone: a STRIKE visit strikes the CALLING entries that match and leaves
the others, a RESTORE visit hands each entry struck by its strike to the lowest ACTIVE strike that matches, or back to
CALLING; a visit that changes a mark marks the CALLS lines that show the service. The visit of slot 23 ends the scan: a
restored strike leaves the list, SCAN_DONE carries the counts (R64 to R68, R127). -/
def Obligations.ScanVisitsOneSlot : Prop :=
  ∀ (s : State) (sc : Scan), s.TableInv → s.scan = some sc → sc.next < 24 →
    ∃ t n marks touched, exec .scanVisit s = .next t ∧
      s.eventChanges t [.services, .strikes, .scan, .notices] [.scrolls, .flags] ∧
      t.services = s.services.map (fun v =>
        if v.slot = sc.next then v.mapActive fun e => { e with mark := s.visitMark sc e } else v) ∧
      n = (s.services.map fun v =>
        if v.slot = sc.next then (v.activeEntries.filter fun e => s.visitMark sc e ≠ e.mark).length else 0).sum ∧
      marks = min 640 (sc.marks + n) ∧ touched = (if n = 0 then sc.touched else min 24 (sc.touched + 1)) ∧
      (0 < n → s.marksService t sc.next [.calls]) ∧
      (sc.next + 1 < 24 →
        t.scan = some ⟨sc.op, sc.id, sc.next + 1, marks, touched⟩ ∧ s.eventChanges t [.services, .scan] [.scrolls, .flags]) ∧
      (sc.next = 23 →
        t.scan = none ∧
        t.strikes = (if sc.op = .restore then s.strikes.filter (fun r => r.id ≠ sc.id) else s.strikes) ∧
        t.notices = postNotice (.scanDone sc.id sc.op marks touched (decide (0 < marks))) s.notices) ∧
      ∀ e : Entry,
        (sc.op = .strike → e.mark = .calling → (∃ r ∈ s.strikes, r.id = sc.id ∧ s.strikeMatches r e.place = true) →
          s.visitMark sc e = .strike sc.id) ∧
        (sc.op = .strike → e.mark = .calling → (∀ r ∈ s.strikes, r.id = sc.id → s.strikeMatches r e.place = false) →
          s.visitMark sc e = .calling) ∧
        (sc.op = .strike → e.mark ≠ .calling → s.visitMark sc e = e.mark) ∧
        (sc.op = .restore → e.mark = .strike sc.id → s.visitMark sc e = s.strikeMark e.place) ∧
        (sc.op = .restore → e.mark ≠ .strike sc.id → s.visitMark sc e = e.mark)

/-! ### Faces and the composer (chapters 5 to 7) -/

/-- FACE stores each carried field, speed and depth clamped, and acts on the changed ones: a changed role or speed starts the
areas it reaches, a changed depth the rotation of a LIVE face, changed call times hand the CALLS areas a changed text. A
change of role map, speed, depth or call times marks every existing line of a LIVE face stale; without such a change and
without a panel ID only auto wake can change. It is refused with FORMAT, RANGE, STATE and DUPLICATE in this order (R121,
R122). -/
def Obligations.FaceStoresItsFields : Prop :=
  (∀ (s : State) (addr : Nat) (b : FaceBody), s.takesFrame addr = true →
    ∃ t, exec (.face addr (.fields b)) s = .next t ∧
      (faceFields b = none ↔
        (∃ q, b.roles = some q ∧ ∃ j, 4 < q.get j) ∨ (∃ n, b.callTimes = some n ∧ 1 < n) ∨
          ∃ n, b.autoWake = some n ∧ 1 < n) ∧
      (faceFields b = none → s.refuses t Kind.face addr .format) ∧
      (faceFields b ≠ none → 3 < b.face ∨ 15 < b.panelId.getD 0 → s.refuses t Kind.face addr .range) ∧
      ∀ f p, faceFields b ≠ none → b.face = f.toNat → b.panelId = some p → p ≤ 15 →
        (p ≠ (s.face f).record.panelId →
          (s.face f).panel.mode = .waking ∨ (s.face f).panel.mode = .live ∨ (s.face f).panel.mode = .retiring ∨
            (s.face f).panel.mode = .faulted →
          s.refuses t Kind.face addr .state) ∧
        (p = (s.face f).record.panelId ∨ (s.face f).panel.mode = .unbound ∨ (s.face f).panel.mode = .absent ∨
            (s.face f).panel.mode = .off →
          p ≠ 0 → (∃ g, g ≠ f ∧ (s.face g).record.panelId = p) → s.refuses t Kind.face addr .duplicate)) ∧
  ∀ (s : State) (addr : Nat) (b : FaceBody) (c : FaceFields) (f : FaceId), s.takesFrame addr = true →
    faceFields b = some c → Four.ofNat? b.face = some f → c.panelId = b.panelId →
    (∀ p, b.panelId = some p →
      p ≤ 15 ∧
      (p = (s.face f).record.panelId ∨ (s.face f).panel.mode = .unbound ∨ (s.face f).panel.mode = .absent ∨
        (s.face f).panel.mode = .off) ∧
      (p = 0 ∨ ∀ g, g ≠ f → (s.face g).record.panelId ≠ p)) →
    ∃ t, exec (.face addr (.fields b)) s = .next t ∧
      s.carriesOut t Kind.face addr .done (.face (t.face f).reply) [.notices]
        [.binding, .roles, .speed, .depth, .callTimes, .autoWake, .geometry, .flags, .scrolls, .rotation, .panel] ∧
      s.emptyFrame.othersChangeOnly t f [.request] ∧
      (t.face f).record.panelId = b.panelId.getD (s.face f).record.panelId ∧
      (t.face f).record.roles = c.roles.getD (s.face f).record.roles ∧
      (t.face f).record.speed = (b.speed.map fun n => max 8 (min 120 n)).getD (s.face f).record.speed ∧
      (t.face f).record.depth = (b.depth.map fun n => max 1 (min 6 n)).getD (s.face f).record.depth ∧
      (t.face f).record.callTimes = c.callTimes.getD (s.face f).record.callTimes ∧
      (t.face f).record.autoWake = c.autoWake.getD (s.face f).record.autoWake ∧
      (∀ j k, k = (8000 + (t.face f).record.speed) / (2 * (t.face f).record.speed) →
        ((t.face f).record.roles.get j ≠ (s.face f).record.roles.get j ∨
            (t.face f).record.speed ≠ (s.face f).record.speed →
          ((t.face f).lines.get j).scroll.startsWith k (t.measureArea (t.face f) j)) ∧
        ((t.face f).record.roles.get j = (s.face f).record.roles.get j →
          (t.face f).record.speed = (s.face f).record.speed →
          (((t.face f).record.callTimes ≠ (s.face f).record.callTimes ∧ (s.face f).record.roles.get j = .calls) →
            ((s.face f).lines.get j).scroll.takesText ((t.face f).lines.get j).scroll s.timing.passGap k
              (t.measureArea (t.face f) j)) ∧
          (((t.face f).record.callTimes = (s.face f).record.callTimes ∨ (s.face f).record.roles.get j ≠ .calls) →
            ((t.face f).lines.get j).scroll = ((s.face f).lines.get j).scroll))) ∧
      ((s.face f).live = true → (t.face f).record.depth ≠ (s.face f).record.depth →
        (t.face f).rotation.startsOver s.timing.followDwell (t.rotationCount (t.face f))) ∧
      ((s.face f).live = false ∨ (t.face f).record.depth = (s.face f).record.depth →
        (t.face f).rotation = (s.face f).rotation) ∧
      (((t.face f).record.roles ≠ (s.face f).record.roles ∨ (t.face f).record.speed ≠ (s.face f).record.speed ∨
          (t.face f).record.depth ≠ (s.face f).record.depth ∨
          (t.face f).record.callTimes ≠ (s.face f).record.callTimes) →
        ∀ j, (s.face f).live = true → (s.face f).hasLine j = true → t.staleLine f j) ∧
      ((t.face f).record.roles = (s.face f).record.roles → (t.face f).record.speed = (s.face f).record.speed →
        (t.face f).record.depth = (s.face f).record.depth →
        (t.face f).record.callTimes = (s.face f).record.callTimes → b.panelId = none →
        s.emptyFrame.facesChangeOnly t [.request, .autoWake])

/-- A change of panel ID binds, rebinds or unbinds the face by R124's table, makes its geometry absent, and starts the wake
of a face bound into OFF whose auto wake the request leaves on. -/
def Obligations.FaceBindsItsPanel : Prop :=
  ∀ (s : State) (addr p : Nat) (b : FaceBody) (c : FaceFields) (f : FaceId), s.takesFrame addr = true →
    s.PanelsInv → faceFields b = some c → Four.ofNat? b.face = some f → b.panelId = some p → c.panelId = some p → p ≤ 15 →
    p ≠ (s.face f).record.panelId →
    ((s.face f).panel.mode = .unbound ∨ (s.face f).panel.mode = .absent ∨ (s.face f).panel.mode = .off) →
    (p = 0 ∨ ∀ g, g ≠ f → (s.face g).record.panelId ≠ p) →
    ∃ t, exec (.face addr (.fields b)) s = .next t ∧ (t.face f).record.geometry = none ∧
      ((s.face f).panel.mode = .unbound → (s.face f).panel.sense = false →
        (t.face f).panel.mode = .absent ∧ (t.face f).panel.cause = .none ∧
          t.notices = postNotice (.faceState f .absent .none) s.beginGoodFrame.notices) ∧
      ((s.face f).panel.mode = .unbound → (s.face f).panel.sense = true →
        (t.face f).panel.cause = .none ∧
        ((t.face f).record.autoWake = false →
          (t.face f).panel.mode = .off ∧
            t.notices = postNotice (.faceState f .off .none) s.beginGoodFrame.notices) ∧
        ((t.face f).record.autoWake = true →
          (t.face f).panel.mode = .waking ∧ (t.face f).panel.power = true ∧ (t.face f).panel.step = some .settling ∧
            (t.face f).panel.settle = some 50 ∧
            t.notices = postNotice (.faceState f .waking .none) s.beginGoodFrame.notices)) ∧
      ((s.face f).panel.mode ≠ .unbound → p ≠ 0 →
        (t.face f).panel = (s.face f).panel ∧ s.beginGoodFrame.agrees t .notices) ∧
      ((s.face f).panel.mode ≠ .unbound → p = 0 →
        (t.face f).panel.mode = .unbound ∧ (t.face f).panel.cause = .none ∧
          t.notices = postNotice (.faceState f .unbound .none) s.beginGoodFrame.notices)

/-- The expiry of a running follow dwell timer: the index advances or wraps, the timer starts again, and the FOLLOW lines of
the face are stale (R89). An order change keeps a rotation whose index has its position, and restarts, stops or starts the
others (R90). The expiry of a running page timer: the index advances or wraps by the page count of this moment, the timer
starts again, and a changed index marks every existing line of a LIVE face stale (R154). That the expiry of a stopped timer
changes nothing is the model's choice (notes/assumptions/2.md). -/
def Obligations.DwellTimersTurnThePage : Prop :=
  ∀ (s : State) (f : FaceId),
    ((s.face f).rotation.dwell = none → exec (.followDwellExpiry f) s = .next s) ∧
    ((s.face f).rotation.dwell.isSome = true →
      ∃ t, exec (.followDwellExpiry f) s = .next t ∧ s.eventChanges t [] [.rotation, .flags] ∧
        s.othersChangeOnly t f [.request] ∧
        (t.face f).rotation =
          ⟨if (s.face f).rotation.index + 1 < s.rotationCount (s.face f) then (s.face f).rotation.index + 1 else 0,
            some s.timing.followDwell⟩ ∧
        ∀ j, (s.face f).showsRole j .follow → t.staleLine f j) ∧
    s.rotationCount (s.face f) = min (s.face f).record.depth (s.services.length - 1) ∧
    (∀ (next : Bool) (after : Rotation) (count : Nat), after = ((s.report (.order next)).face f).rotation →
      count = s.rotationCount (s.face f) →
      ((s.face f).rotation.dwell.isSome = true →
        (count = 0 → after = ⟨0, none⟩) ∧
        ((s.face f).rotation.index < count → after = (s.face f).rotation) ∧
        (0 < count → count ≤ (s.face f).rotation.index → after = ⟨0, some s.timing.followDwell⟩)) ∧
      ((s.face f).rotation.dwell = none →
        ((s.face f).live = true → after.startsOver s.timing.followDwell count) ∧
        ((s.face f).live = false → after = (s.face f).rotation))) ∧
    ((s.face f).pageTimer = none → exec (.pageTimerExpiry f) s = .next s) ∧
    ((s.face f).pageTimer.isSome = true →
      ∃ t, exec (.pageTimerExpiry f) s = .next t ∧ s.eventChanges t [] [.flags, .paging] ∧
        s.othersChangeOnly t f [.request] ∧ (t.face f).pageTimer = some s.timing.pageDwell ∧
        (t.face f).page = (if (s.face f).page + 1 < s.pagesOf (s.face f) then (s.face f).page + 1 else 0) ∧
        ((t.face f).page = (s.face f).page → (s.face f).agrees (t.face f) .flags) ∧
        ((t.face f).page ≠ (s.face f).page →
          ∀ j, (s.face f).live = true → (s.face f).hasLine j = true → t.staleLine f j))

/-- The expiry of a running step timer: n advances by exactly one and the line is stale; at n = D the area enters GAP, or
with a pass gap of 0 begins its next pass (R107, R108). The expiry of a running gap timer: a new pass from n = 0 with the
step interval of the face's present speed, and no line is marked (R105). Two successive step waits make one step interval,
and they differ by at most one pacing period (R106). A report that the next service changed starts the CALLS areas (R104);
every other report that reaches a CALLS area, a clock second or a notice change on a NOTICE area, and a glyph change on any,
is a text changed hand-off (R94, R111, R112); no other report touches an area. An area of a LIVE face is measured by the text
its line's role gives it and by its width, less the clock and 4 columns on a NOTICE line (R101, R102). That the expiry of a
stopped timer changes nothing is the model's choice (notes/assumptions/2.md). -/
def Obligations.ScrollTimersAdvance : Prop :=
  ∀ (s : State) (f : FaceId) (j : LineId),
    (((s.face f).lines.get j).scroll.inPass = false → exec (.stepTimerExpiry f j) s = .next s) ∧
    ((∀ w wa g, ((s.face f).lines.get j).scroll ≠ .gap w wa g) → exec (.gapTimerExpiry f j) s = .next s) ∧
    (∀ w wa n k wait, ((s.face f).lines.get j).scroll = .pass w wa n k wait →
      ∃ t, exec (.stepTimerExpiry f j) s = .next t ∧ s.eventChanges t [] [.scrolls, .flags] ∧
        s.othersChangeOnly t f [.request] ∧
        (∀ i, i ≠ j → (t.face f).lines.get i = (s.face f).lines.get i) ∧
        (n + 1 < w + wa →
          ((t.face f).lines.get j).scroll = .pass w wa (n + 1) k (stepWait k (n + 2))) ∧
        (w + wa ≤ n + 1 → s.timing.passGap ≠ 0 →
          ((t.face f).lines.get j).scroll = .gap w wa (2 * s.timing.passGap)) ∧
        (w + wa ≤ n + 1 → s.timing.passGap = 0 →
          ∃ k', k' = (8000 + (s.face f).record.speed) / (2 * (s.face f).record.speed) ∧
            ((t.face f).lines.get j).scroll = .pass w wa 0 k' (stepWait k' 1)) ∧
        ∀ r, (s.face f).showsRole j r → t.staleLine f j) ∧
    (∀ w wa g, ((s.face f).lines.get j).scroll = .gap w wa g →
      ∃ t k, exec (.gapTimerExpiry f j) s = .next t ∧ s.changesOnly t [.faces] ∧ s.facesChangeOnly t [.scrolls] ∧
        k = (8000 + (s.face f).record.speed) / (2 * (s.face f).record.speed) ∧
        ((t.face f).lines.get j).scroll = .pass w wa 0 k (stepWait k 1) ∧
        (∀ i, i ≠ j → (t.face f).lines.get i = (s.face f).lines.get i) ∧ s.othersChangeOnly t f []) ∧
    (∀ x : Face,
      (x.live = false ∨ x.hasLine j = false → s.measureArea x j = none) ∧
      (x.live = true → x.hasLine j = true →
        (x.record.roles.get j ≠ .calls → x.record.roles.get j ≠ .notice → s.measureArea x j = none) ∧
        (x.record.roles.get j = .calls →
          (∀ text, s.lineContent { x with overrides := [] } j = .scrolling text →
            s.measureArea x j = some (measure s.glyphs text, x.width)) ∧
          (s.lineContent { x with overrides := [] } j = .empty → s.measureArea x j = none)) ∧
        (x.record.roles.get j = .notice →
          (x.holds .stationNotice = false ∨ s.texts.notice = [] → s.measureArea x j = none) ∧
          (x.holds .stationNotice = true → s.texts.notice ≠ [] →
            s.measureArea x j =
              some (measure s.glyphs s.texts.notice,
                if s.clock.valid = true then x.width - 4 - measure s.glyphs (clockText s.clock) else x.width))))) ∧
    (∀ k i : Nat, stepWait k i + stepWait k (i + 1) = k ∧ stepWait k i ≤ stepWait k (i + 1) + 1 ∧
      stepWait k (i + 1) ≤ stepWait k i + 1) ∧
    ∀ (c : Change) (before after : Scroll) (k : Nat), before = ((s.face f).lines.get j).scroll →
      after = (((s.report c).face f).lines.get j).scroll →
      k = (8000 + (s.face f).record.speed) / (2 * (s.face f).record.speed) →
      (c = .order true → (s.face f).record.roles.get j = .calls → after.startsWith k (s.measureArea (s.face f) j)) ∧
      (s.changesText c f j → before.takesText after s.timing.passGap k (s.measureArea (s.face f) j)) ∧
      (¬(c = .order true ∧ (s.face f).record.roles.get j = .calls) → ¬s.changesText c f j → after = before)

/-- Text is fitted to its line. Each record puts its texts at their columns and leaves the clipped mark: the fields of a
departure, the status giving way to the time and the destination to both (R97); a centred text, with the odd column to the
right (R100); the clock and the notice area left of it (R101); a scrolling text by its phase (R103). A destination is shown
whole where its full name fits, else by its short name where that fits, else by the longest run of whole glyphs of the short
name that fits, which alone is clipped (R98, R99). A column is lit where a glyph placed there lights it, each text confined
to its area (R59, R96); the advances are those of R57, and a user glyph has its own (R58). Wrapping keeps every word's
characters in order, no wrapped line is wider than the face, whose least width is 80, and no line has room for the first word
of the next, but where that line is the longest run of glyphs of a word too wide for any line (R115, R116). -/
def Obligations.TextIsFittedToItsLine : Prop :=
  ∀ gs : List UserGlyph,
    (∀ (budget : Nat) (full short : Text),
      (measure gs full ≤ budget → fitDestination gs budget full short = (full, false)) ∧
      (budget < measure gs full → measure gs short ≤ budget → fitDestination gs budget full short = (short, false)) ∧
      (budget < measure gs full → budget < measure gs short →
        ∃ k, fitDestination gs budget full short = (short.take k, true) ∧ k < short.length ∧
          measure gs (short.take k) ≤ budget ∧ budget < measure gs (short.take (k + 1)))) ∧
    (∀ (wl : Nat) (x : Text), (∀ c, advance gs c ≤ 12) → 80 ≤ wl →
      (∀ l ∈ wrapText gs wl x, measure gs l ≤ wl ∧ l ≠ []) ∧
      (∀ k l m, (wrapText gs wl x)[k]? = some l → (wrapText gs wl x)[k + 1]? = some m →
        wl < measure gs (l ++ 32 :: m.takeWhile fun c => c ≠ 32) ∨
          (32 ∉ m ∧ ∃ rest, (wrapText gs wl x)[k + 2]? = some rest ∧ wl < measure gs (m ++ rest.take 1))) ∧
      ((wrapText gs wl x).flatten.filter fun c => c ≠ 32) = x.filter fun c => c ≠ 32) ∧
    (List.range' 32 95).map (advance gs) =
      [3, 2, 6, 6, 6, 6, 7, 2, 3, 3, 6, 6, 2, 4, 2, 5, 6, 4, 6, 6, 6, 6, 6, 6, 6, 6, 2, 2, 6, 6, 6, 6] ++
      [6, 7, 7, 7, 7, 7, 7, 7, 7, 3, 7, 7, 7, 9, 7, 7, 7, 7, 7, 7, 7, 7, 7, 9, 7, 7, 7, 3, 6, 3, 6, 6] ++
      [6, 6, 6, 6, 6, 6, 4, 6, 6, 2, 3, 6, 2, 8, 6, 6, 6, 6, 6, 6, 4, 6, 6, 8, 6, 6, 6, 6, 6, 6, 6] ∧
    (∀ c, 128 ≤ c → advance gs c = ((gs[c - 128]?).map UserGlyph.advance).getD 6) ∧
    (∀ row col, glyphPixel gs 32 row col = false) ∧
    (∀ c row col, 128 ≤ c → (glyphPixel gs c row col = true ↔
      col < 12 ∧ ∃ u b, gs[c - 128]? = some u ∧ u.rows[row]? = some b ∧ b.getLsbD (11 - col) = true)) ∧
    measure gs [] = 0 ∧
    (∀ x : Text, x ≠ [] → measure gs x + 1 = (x.map fun c => advance gs c + 1).sum) ∧
    (∀ (wl : Nat) (sc : Scroll) (lead full short status : Text),
      (wl < measure gs lead + 4 + measure gs status →
        placeContent gs wl sc (.fielded lead full short status) = ([⟨0, lead, 0, wl⟩], true)) ∧
      (measure gs lead + 4 + measure gs status ≤ wl → wl < measure gs lead + measure gs status + 8 →
        placeContent gs wl sc (.fielded lead full short status) =
          ([⟨0, lead, 0, wl⟩, ⟨(wl : Int) - measure gs status, status, 0, wl⟩], decide (full ≠ []))) ∧
      ∀ budget, wl = measure gs lead + measure gs status + 8 + budget →
        placeContent gs wl sc (.fielded lead full short status) =
          ([⟨0, lead, 0, wl⟩, ⟨(measure gs lead : Int) + 4, (fitDestination gs budget full short).1, 0, wl⟩,
              ⟨(wl : Int) - measure gs status, status, 0, wl⟩],
            (fitDestination gs budget full short).2)) ∧
    (∀ (wl : Nat) (sc : Scroll) (x : Text), ∃ col : Int,
      placeContent gs wl sc (.centred x) = ([⟨col, x, 0, wl⟩], decide (wl < measure gs x)) ∧
      placeContent gs wl sc (.split none (some x)) = ([⟨col, x, 0, wl⟩], false) ∧
      2 * col ≤ (wl : Int) - measure gs x ∧ (wl : Int) - measure gs x < 2 * col + 2) ∧
    (∀ (wl wa : Nat) (sc : Scroll) (x clock : Text),
      placeContent gs wl sc (.scrolling x) = (placeScroll x wl sc, false) ∧
      placeContent gs wl sc (.split (some x) none) = (placeScroll x wl sc, false) ∧
      (wl = wa + 4 + measure gs clock →
        placeContent gs wl sc (.split (some x) (some clock)) =
          (placeScroll x wa sc ++ [⟨(wl : Int) - measure gs clock, clock, 0, wl⟩], false)) ∧
      placeContent gs wl sc (.split none none) = ([], false) ∧ placeContent gs wl sc .empty = ([], false) ∧
      (sc = .idle ∨ (∃ a b g, sc = .gap a b g) → placeScroll x wa sc = []) ∧
      ((∃ a b, sc = .still a b) → placeScroll x wa sc = [⟨0, x, 0, wa⟩]) ∧
      ∀ a b n k wait, sc = .pass a b n k wait → placeScroll x wa sc = [⟨(wa : Int) - n, x, 0, wa⟩]) ∧
    (∀ c : Clock, c.InRange → 35 ≤ measure gs (clockText c) ∧ measure gs (clockText c) ≤ 47) ∧
    measure gs (codes "No services from this platform") = 182 ∧
    ∀ (wl : Nat) (ps : List Placed), (drawImage gs wl ps).length = 16 ∧
      ∀ row pixels, (drawImage gs wl ps)[row]? = some pixels → pixels.length = wl ∧
        ∀ c < wl, pixels[c]? = some true ↔
          ∃ p ∈ ps, p.lo ≤ c ∧ c < p.hi ∧
            ∃ (k g : Nat) (start : Int), p.text[k]? = some g ∧
              start = p.col + ((p.text.take k).map fun d => advance gs d + 1).sum ∧
              start ≤ c ∧ (c : Int) < start + advance gs g ∧ glyphPixel gs g row ((c : Int) - start).toNat = true

/-! ### The render engine (chapter 8) -/

/-- The engine's turn sends the first existing line, from the walk position, whose hidden flag is clear, composed at this
moment, in 16 rows of the face's width (R139). What a line then holds follows its role (R74 to R93) and the state of the
moment: the next service's time, destination and status on HEAD, or the idle text; on CALLS its calling text, its reason, or
that it is cancelled; on FOLLOW the service at the rotation's position under its ordinal; on NOTICE the notice and the clock;
and under a board override the line of the page shown (R114, R117). The shown service of a line is that of its role (R75).
The calling text names the visible entries in key order, for two portions the shared run first and then each portion's tail
(R81 to R86). Outside the engine's turn, and with a line in flight or a FLIP sent, there is no turn to use: that the turn is
a command of its own, and that one which cannot be there changes nothing, is the model's deduction (notes/assumptions/5.md,
10.md). -/
def Obligations.TheTurnSendsTheNextLine : Prop :=
  (∀ s : State,
    ((s.link.tx ≠ .engineTurn ∨ ∀ r, s.engine.render = some r → r.phase = .flipping ∨ r.inFlight.isSome = true) →
      exec .renderTurn s = .next s) ∧
    ∀ (r : Render) (j : LineId), s.link.tx = .engineTurn → s.engine.render = some r → r.phase = .walking →
      r.inFlight = none → r.walk ≤ j.toNat → (s.face r.face).hasLine j = true →
      ((s.face r.face).lines.get j).current r.hidden = false →
      (∀ i : LineId, r.walk ≤ i.toNat → i.toNat < j.toNat → ((s.face r.face).lines.get i).current r.hidden = true) →
      ∃ t img, exec .renderTurn s = .next t ∧ s.changesOnly t [.faces, .engine, .link] ∧ s.facesChangeOnly t [.clipped] ∧
        s.othersChangeOnly t r.face [] ∧ img = s.lineImage (s.face r.face) j ∧ img.length = 16 ∧
        (∀ row ∈ img, row.length = (s.face r.face).width) ∧
        t.link = { s.link with
          tx := .sending (.line (s.face r.face).record.panelId r.hidden j img) (some .engine) } ∧
        t.engine = { s.engine with
          render := some { r with walk := j.toNat + 1, inFlight := some j, sent := r.sent.set j true } } ∧
        ((t.face r.face).lines.get j).clipped = (s.composeLine (s.face r.face) j).2 ∧
        ∀ i, i ≠ j → (t.face r.face).lines.get i = (s.face r.face).lines.get i) ∧
  (∀ (s : State) (x : Face) (j : LineId) (dest : Service → Text × Text) (reason : Service → Text),
    dest = (fun v => (destinationText s.fullName v, destinationText s.shortName v)) →
    reason = (fun v => match v.reason with | some r => codes "  " ++ r | none => []) →
    s.lineImage x j = drawImage s.glyphs x.width (s.composeLine x j).1 ∧
    s.composeLine x j = placeContent s.glyphs x.width (x.lines.get j).scroll (s.lineContent x j) ∧
    (∀ src page, x.currentOverride = some src → page = (if x.page < s.pagesOf x then x.page else 0) →
      (∀ t, (wrapText s.glyphs x.width (s.texts.get src))[page * x.lineCount + j.toNat]? = some t →
        s.lineContent x j = .centred t) ∧
      ((wrapText s.glyphs x.width (s.texts.get src))[page * x.lineCount + j.toNat]? = none → s.lineContent x j = .empty)) ∧
    (∀ src m, x.currentOverride = some src → m = (wrapText s.glyphs x.width (s.texts.get src)).length →
      (m = 0 → s.pagesOf x = 1) ∧
      (0 < m → 0 < x.lineCount → m ≤ s.pagesOf x * x.lineCount ∧ (s.pagesOf x - 1) * x.lineCount < m)) ∧
    s.shownService x .head = s.serviceAt 1 ∧ s.shownService x .calls = s.serviceAt 1 ∧
    (x.record.depth = 0 ∨ s.services.length ≤ 1 → s.shownService x .follow = none) ∧
    (0 < x.record.depth → 1 < s.services.length → s.shownService x .follow = s.serviceAt (2 + x.rotation.index)) ∧
    s.shownService x .notice = none ∧ s.shownService x .blank = none ∧
    (x.currentOverride = none →
      (x.record.roles.get j = .head →
        (s.serviceAt 1 = none → s.lineContent x j = .centred (codes "No services from this platform")) ∧
        ∀ v, s.serviceAt 1 = some v →
          s.lineContent x j = .fielded (timeText v.sched) (dest v).1 (dest v).2 (statusText s.clock.pmc v)) ∧
      (x.record.roles.get j = .calls →
        (s.serviceAt 1 = none → s.lineContent x j = .empty) ∧
        ∀ v, s.serviceAt 1 = some v →
          (v.state = .cancelled →
            s.lineContent x j = .scrolling (v.reason.getD (codes "This service has been cancelled."))) ∧
          (v.state ≠ .cancelled →
            (v.active = none → s.lineContent x j = .empty) ∧
            ∀ es, v.active = some es →
              s.lineContent x j = .scrolling (s.callingText x.record.callTimes v es ++ reason v))) ∧
      (x.record.roles.get j = .follow →
        (x.record.depth = 0 ∨ s.services.length ≤ 1 → s.lineContent x j = .empty) ∧
        (0 < x.record.depth → 1 < s.services.length →
          ∀ v ordinal, s.serviceAt (2 + x.rotation.index) = some v →
            ["2nd", "3rd", "4th", "5th", "6th", "7th"][x.rotation.index]? = some ordinal →
            s.lineContent x j =
              .fielded (codes ordinal ++ [32] ++ timeText v.sched) (dest v).1 (dest v).2 (statusText s.clock.pmc v))) ∧
      (x.record.roles.get j = .notice →
        ∀ notice clock, notice = (if x.holds .stationNotice ∧ s.texts.notice ≠ [] then some s.texts.notice else none) →
          clock = (if s.clock.valid then some (clockText s.clock) else none) →
          s.lineContent x j = if notice = none ∧ clock = none then .empty else .split notice clock) ∧
      (x.record.roles.get j = .blank → s.lineContent x j = .empty))) ∧
  (∀ (name : Nat → Text) (v : Service),
    (v.rear = none → destinationText name v = name v.front.dest) ∧
    ∀ r, v.rear = some r → destinationText name v = name v.front.dest ++ codes " & " ++ name r.dest) ∧
  (∀ (s : State) (p : PlaceEntry), s.placeOf p.id = some p →
    s.fullName p.id = p.full ∧ s.shortName p.id = p.short.getD p.full) ∧
  (∀ h m, h < 24 → m < 60 →
    timeText (h * 60 + m) = [48 + h / 10, 48 + h % 10, 58, 48 + m / 10, 48 + m % 10]) ∧
  (∀ c : Clock, c.InRange →
    clockText c = timeText (c.hours * 60 + c.minutes) ++ [58, 48 + c.seconds / 10, 48 + c.seconds % 10]) ∧
  (∀ (pmc : Nat) (v : Service),
    (v.state = .cancelled → statusText pmc v = codes "Cancelled") ∧
    (v.state = .delayed → statusText pmc v = codes "Delayed") ∧
    (v.state = .onTime → statusText pmc v = if v.schedAbs ≤ pmc then codes "Due" else codes "On time") ∧
    ∀ m abs, v.state = .expected m abs →
      statusText pmc v =
        if abs ≤ pmc then codes "Due" else if m = v.sched then codes "On time" else codes "Exp " ++ timeText m) ∧
  (∀ (names : List Text) (x y : Text),
    joinNames [x] = x ∧
      joinNames (names ++ [x, y]) = (names.map fun n => n ++ codes ", ").flatten ++ x ++ codes " and " ++ y) ∧
  (∀ (s : State) (times : Bool) (e : Entry),
    (times = false ∨ e.time = none → s.entryName times e = s.fullName e.place) ∧
    ∀ m, times = true → e.time = some m →
      s.entryName times e = s.fullName e.place ++ codes " (" ++ timeText m ++ codes ")") ∧
  (∀ (s : State) (times : Bool) (v : Service) (es seen : List Entry), seen = es.filter (fun e => e.mark = .calling) →
    (v.rear = none →
      s.callingText times v es =
        if seen = [] then codes "Non-stop to " ++ s.fullName v.front.dest ++ codes "."
        else
          codes "Calling at " ++ joinNames (seen.map (s.entryName times) ++ [s.fullName v.front.dest]) ++ codes ".") ∧
    ∀ r run rest, v.rear = some r → seen = run ++ rest → (∀ e ∈ run, e.mask = .both) →
      (∀ e, rest.head? = some e → e.mask ≠ .both) →
      s.callingText times v es =
        (if run = [] then [] else codes "Calling at " ++ joinNames (run.map (s.entryName times)) ++ codes ". ") ++
          s.portionPhrase times (codes "Front") v.front (rest.filter fun e => e.mask ≠ .second) ++ codes " " ++
          s.portionPhrase times (codes "Rear") r (rest.filter fun e => e.mask ≠ .first)) ∧
  ∀ (s : State) (times : Bool) (which : Text) (p : Portion) (tail : List Entry) (size : Text),
    (p.coaches = none → size = codes " portion") → (p.coaches = some 1 → size = codes " 1 coach") →
    (∀ n, p.coaches = some n → 2 ≤ n ∧ n ≤ 16 → size = codes " " ++ codes (toString n) ++ codes " coaches") →
    (∀ n, p.coaches = some n → 1 ≤ n ∧ n ≤ 16) →
    s.portionPhrase times which p tail =
      which ++ size ++ codes " for " ++ s.fullName p.dest ++
        if tail = [] then codes ", non-stop."
        else codes ", calling at " ++ joinNames (tail.map (s.entryName times) ++ [s.fullName p.dest]) ++ codes "."

/-- When the walk has ended, FLIP is sent exactly when every existing line's hidden flag is set and no line is overtaken;
otherwise the render ends without a flip: the hidden flag of each overtaken line is cleared, the record is gone, and the face
is released and asks again exactly when its frame is wanted (R142, R143, R145). That the turn is a command of its own, and
that a grant is chosen at the end of the event, is the model's deduction (notes/assumptions/5.md). -/
def Obligations.FlipOnlyWhenEveryLineIsCurrent : Prop :=
  ∀ (s : State) (r : Render), s.link.tx = .engineTurn → s.engine.render = some r → r.phase = .walking →
    r.inFlight = none →
    (∀ j : LineId, r.walk ≤ j.toNat → (s.face r.face).hasLine j = true →
      ((s.face r.face).lines.get j).current r.hidden = true) →
    ∃ t, exec .renderTurn s = .next t ∧
      (((∀ j, (s.face r.face).hasLine j = true → ((s.face r.face).lines.get j).current r.hidden = true) ∧
          ∀ j, r.overtaken.get j = false) →
        s.changesOnly t [.engine, .link] ∧ t.engine = { s.engine with render := some { r with phase := .flipping } } ∧
          t.link = { s.link with tx := .sending (.flip (s.face r.face).record.panelId r.hidden) (some .engine) }) ∧
      (((∃ j, (s.face r.face).hasLine j = true ∧ ((s.face r.face).lines.get j).current r.hidden = false) ∨
          ∃ j, r.overtaken.get j = true) →
        s.eventChanges t [] [.flags] ∧ (∀ panel b o, t.link.tx ≠ .sending (.flip panel b) o) ∧
        (t.face r.face).record.shown = (s.face r.face).record.shown ∧
        (∀ q, t.engine.render = some q → q.isFresh) ∧
        ((t.face r.face).wanted = false → (t.face r.face).record.request = .none) ∧
        ((t.face r.face).wanted = true → (t.face r.face).record.request ≠ .none) ∧
        ∀ j, ((t.face r.face).lines.get j).current r.hidden =
          (((s.face r.face).lines.get j).current r.hidden && !r.overtaken.get j))

/-- STORED for the line in flight sets the line's hidden flag and stops the answer timer; any other STORED is discarded
(R140). -/
def Obligations.StoredSetsTheHiddenFlag : Prop :=
  ∀ (s : State) (panel line : Nat) (buffer : Buf),
    (∀ r j, s.engine.render = some r → r.phase = .walking → r.inFlight = some j →
      panel = (s.face r.face).record.panelId → buffer = r.hidden → line = j.toNat →
      ∃ t, exec (.stored panel buffer line) s = .next t ∧ s.eventChanges t [] [.flags] ∧
        t.engine.render = some { r with inFlight := none, answer := none } ∧
        (∀ i b, ((t.face r.face).lines.get i).current b =
          if i = j ∧ b = r.hidden then true else ((s.face r.face).lines.get i).current b) ∧
        s.othersChangeOnly t r.face [.request]) ∧
    ((∀ r j, s.engine.render = some r → r.inFlight = some j →
        ¬(r.phase = .walking ∧ panel = (s.face r.face).record.panelId ∧ buffer = r.hidden ∧ line = j.toNat)) →
      exec (.stored panel buffer line) s = .next s)

/-- FLIPPED that answers the render's FLIP ends it: the face's shown buffer becomes the one named, a mismatch clears every
flag, and the face asks again exactly when its frame is wanted. A FLIPPED that answers no FLIP is discarded for a face that
is not LIVE or that shows the buffer named; otherwise the buffer is adopted, every flag is cleared, and a render of the face
that walks is abandoned (R129, R143, R144, R145, R148). -/
def Obligations.FlippedSetsTheShownBuffer : Prop :=
  ∀ (s : State) (panel : Nat) (buffer : Buf),
    (∀ r, s.engine.render = some r → r.phase = .flipping → panel = (s.face r.face).record.panelId →
      ∃ t, exec (.flipped panel buffer) s = .next t ∧ s.eventChanges t [] [.shown, .flags] ∧
        s.othersChangeOnly t r.face [.request] ∧ (t.face r.face).record.shown = buffer ∧
        (buffer = r.hidden → (s.face r.face).agrees (t.face r.face) .flags) ∧
        (buffer ≠ r.hidden → ∀ j, t.staleLine r.face j) ∧
        ((t.face r.face).wanted = false → (t.face r.face).record.request = .none) ∧
        ((t.face r.face).wanted = true → (t.face r.face).record.request ≠ .none) ∧
        ∀ q, t.engine.render = some q → q.phase = .walking ∧ q.walk = 0 ∧ q.inFlight = none ∧ q.answer = none) ∧
    ((∀ r, s.engine.render = some r → r.phase = .flipping → panel ≠ (s.face r.face).record.panelId) →
      ((∀ f, panel = 0 ∨ (s.face f).record.panelId ≠ panel) → exec (.flipped panel buffer) s = .next s) ∧
      ∀ f, s.faceOf panel = some f →
        ((s.face f).live = false ∨ (s.face f).record.shown = buffer → exec (.flipped panel buffer) s = .next s) ∧
        ((s.face f).live = true → (s.face f).record.shown ≠ buffer →
          ∃ t, exec (.flipped panel buffer) s = .next t ∧ s.eventChanges t [] [.shown, .flags] ∧
            (t.face f).record.shown = buffer ∧ (∀ j, t.staleLine f j) ∧ s.othersChangeOnly t f [.request] ∧
            ((t.face f).wanted = true → (t.face f).record.request ≠ .none) ∧
            (s.grants f = true → ∀ q, t.engine.render = some q → q.isFresh)))

/-- A mark on a line the render in flight has sent makes the line overtaken while the render walks, and leaves a render whose
FLIP has been sent alone (R141). The staleness map: which existing lines of a LIVE face each cause reaches (R127), a cause
that changes role content alone passing over a face with a current board override (R128). -/
def Obligations.AMarkOvertakesASentLine : Prop :=
  (∀ (s : State) (f : FaceId) (j : LineId),
    (∀ c, s.marks c f (s.face f) j = true → (s.face f).live = true ∧ (s.face f).hasLine j = true) ∧
    ((s.face f).currentOverride.isSome = true →
      (∀ next, s.marks (.order next) f (s.face f) j = false) ∧
      (∀ slot, s.marks (.service slot) f (s.face f) j = false ∧ s.marks (.close slot) f (s.face f) j = false ∧
        s.marks (.strikeMarks slot) f (s.face f) j = false) ∧
      (∀ id, s.marks (.place id) f (s.face f) j = false) ∧ s.marks .clockSecond f (s.face f) j = false ∧
      ∀ g, (∀ i, s.marks (.scrollStep g i) f (s.face f) j = false) ∧ s.marks (.rotation g) f (s.face f) j = false ∧
        s.marks (.notice g) f (s.face f) j = false) ∧
    ((s.face f).live = true → (s.face f).hasLine j = true →
      s.marks .glyph f (s.face f) j = true ∧ s.marks .restartContent f (s.face f) j = true ∧
      ∀ g, (s.marks (.override g) f (s.face f) j = true ↔ g = f) ∧ (s.marks (.face g) f (s.face f) j = true ↔ g = f)) ∧
    ∀ r, (s.face f).showsRole j r →
      (s.marks (.order true) f (s.face f) j = true ↔ r = .head ∨ r = .calls ∨ r = .follow) ∧
      (s.marks (.order false) f (s.face f) j = true ↔ r = .follow) ∧
      (∀ slot, (s.marks (.service slot) f (s.face f) j = true ↔
          ∃ v, s.shownService (s.face f) r = some v ∧ v.slot = slot) ∧
        (s.marks (.close slot) f (s.face f) j = true ↔
          r = .calls ∧ ∃ v, s.shownService (s.face f) r = some v ∧ v.slot = slot) ∧
        (s.marks (.strikeMarks slot) f (s.face f) j = true ↔
          r = .calls ∧ ∃ v, s.shownService (s.face f) r = some v ∧ v.slot = slot)) ∧
      (∀ id, s.marks (.place id) f (s.face f) j = true ↔
        ∃ v, s.shownService (s.face f) r = some v ∧
          (id ∈ v.dests ∨ (r = .calls ∧ ∃ e ∈ v.activeEntries, e.place = id))) ∧
      (s.marks .clockSecond f (s.face f) j = true ↔ r = .notice) ∧
      ∀ g, (∀ i, s.marks (.scrollStep g i) f (s.face f) j = true ↔ g = f ∧ i = j) ∧
        (s.marks (.rotation g) f (s.face f) j = true ↔ g = f ∧ r = .follow) ∧
        (s.marks (.notice g) f (s.face f) j = true ↔ g = f ∧ r = .notice)) ∧
  ∀ (s : State) (c : Change) (r : Render), s.engine.render = some r →
    ∃ q, (s.markStale c).engine.render = some q ∧
      (r.phase = .flipping → q = r) ∧
      (r.phase = .walking →
        (∀ j, q.overtaken.get j =
          (r.overtaken.get j || (r.sent.get j && s.marks c r.face (s.face r.face) j))) ∧
        { q with overtaken := r.overtaken } = r) ∧
      ∀ f j b, (((s.markStale c).face f).lines.get j).current b =
        (((s.face f).lines.get j).current b && !s.marks c f (s.face f) j)

/-- While the engine is FREE some waiting face is granted, and it is the one that ranks before every other: by level, then by
the grant history, then by panel ID (R136, R137). A face's level is that of its current override, and 0 without one (R135);
its frame is wanted while it is LIVE and an existing line's flag for the shown buffer is clear (R129). -/
def Obligations.TheGrantGoesToTheFirstRanked : Prop :=
  (∀ x : Face,
    (x.currentOverride = none → x.requestLevel = 0) ∧
    (∀ src, x.currentOverride = some src → x.requestLevel = src.level) ∧
    (x.wanted = true ↔
      x.panel.mode = .live ∧ ∃ j : LineId, x.hasLine j = true ∧ (x.lines.get j).current x.record.shown = false) ∧
    ∀ j : LineId, x.hasLine j = true ↔ ∃ g, x.record.geometry = some g ∧ j.toNat < g.lines) ∧
  (∀ s : State, s.engine.history.Nodup →
    (∀ g h, g ≠ h → (s.face g).record.request = .waiting → (s.face h).record.request = .waiting →
      (s.face g).record.panelId ≠ (s.face h).record.panelId) →
    s.engine.render = none →
    ((∃ g, (s.face g).record.request = .waiting) →
      ∃ f, (s.face f).record.request = .waiting ∧ s.bestWaiting = some f ∧ s.grantNext.grants f = true) ∧
    ∀ f, (s.face f).record.request = .waiting →
      (∀ g, g ≠ f → (s.face g).record.request = .waiting → s.outranks f g) →
      (s.grantNext.face f).record.request = .granted ∧
      s.grantNext.engine.history = (s.engine.history.filter fun g => g ≠ f) ++ [f] ∧
      s.grantNext.engine.render =
        some ⟨f, (s.face f).record.shown.other, .walking, 0, none, Quad.const false, Quad.const false, none⟩ ∧
      s.changesOnly s.grantNext [.faces, .engine, .link] ∧ s.facesChangeOnly s.grantNext [.request] ∧
      s.othersChangeOnly s.grantNext f []) ∧
  ∀ (s : State) (f : FaceId), s.engine.history.Nodup →
    (∀ g h, g ≠ h → (s.face g).record.request = .waiting → (s.face h).record.request = .waiting →
      (s.face g).record.panelId ≠ (s.face h).record.panelId) →
    s.engine.render = none → s.bestWaiting = some f →
    (s.face f).record.request = .waiting ∧ (s.grantNext.face f).record.request = .granted ∧
    s.grantNext.engine.history = (s.engine.history.filter fun g => g ≠ f) ++ [f] ∧
    s.grantNext.engine.render =
      some ⟨f, (s.face f).record.shown.other, .walking, 0, none, Quad.const false, Quad.const false, none⟩ ∧
    ∀ g, g ≠ f → (s.face g).record.request = .waiting →
      (s.face g).requestLevel < (s.face f).requestLevel ∨
      ((s.face g).requestLevel = (s.face f).requestLevel ∧
        ((f ∉ s.engine.history ∧ g ∈ s.engine.history) ∨
          (f ∈ s.engine.history ∧ g ∈ s.engine.history ∧ s.engine.history.idxOf f < s.engine.history.idxOf g) ∨
          (f ∉ s.engine.history ∧ g ∉ s.engine.history ∧
            (s.face g).record.panelId < (s.face f).record.panelId)))

/-- The expiry of a running answer timer ends the render, and the expiry of a running panel answer limit withdraws the
question; the face asked, LIVE, retires with cause NO_ANSWER: DARK and then SLEEP are asked for, nothing is shown, and the
engine is no longer held by it (R146, R173, R174). That the expiry of a stopped timer changes nothing is the model's choice
(notes/assumptions/2.md). -/
def Obligations.AMissingAnswerRetiresTheFace : Prop :=
  ∀ s : State,
    ((∀ r, s.engine.render = some r → r.answer = none) → exec .renderAnswerTimeout s = .next s) ∧
    (∀ r, s.engine.render = some r → r.answer.isSome = true → (s.face r.face).live = true →
      ∃ t, exec .renderAnswerTimeout s = .next t ∧ s.retiresFor t r.face .noAnswer) ∧
    ∀ f, ((s.face f).panel.awaiting = none → exec (.panelAnswerLimit f) s = .next s) ∧
      ((s.face f).panel.awaiting.isSome = true → (s.face f).live = true →
        ∃ t, exec (.panelAnswerLimit f) s = .next t ∧ s.retiresFor t f .noAnswer)

/-- The end of a message starts what its owner waits for (R138, R168, R171, R174, R182), and the transmitter goes to the
first waiting message of the supervisor that no awaited PANEL_STATE of its face holds back, before the engine; a LEVEL
carries the present level of this moment (R149, R171). That a message given up by its owner starts nothing, and that an end
which cannot be there changes nothing, is the model's deduction (notes/assumptions/14.md, 10.md). -/
def Obligations.TheEndOfAMessageStartsItsTimer : Prop :=
  ∀ s : State,
    ((∀ m o, s.link.tx ≠ .sending m o) → exec .transmitEnd s = .next s) ∧
    ∀ m o, s.link.tx = .sending m o →
      ∃ t, exec .transmitEnd s = .next t ∧ s.eventChanges t [] [.panel] ∧
        (∀ r panel b i img, m = .line panel b i img → o = some .engine → s.engine.render = some r →
          r.phase = .walking → r.inFlight = some i → t.engine.render = some { r with answer := some 5 }) ∧
        (∀ r panel b, m = .flip panel b → o = some .engine → s.engine.render = some r → r.phase = .flipping →
          t.engine.render = some { r with answer := some 5 }) ∧
        (∀ f panel, m = .wake panel → o = some (.face f) → (s.face f).panel.mode = .waking →
          (s.face f).panel.step = some .awaitingReady → (t.face f).panel.wake = some s.timing.wakeTimeout) ∧
        (∀ f panel, (m = .poll panel ∨ ∃ n, m = .level panel n) → o = some (.face f) → (s.face f).live = true →
          (t.face f).panel.awaiting = some 5) ∧
        (∀ f panel, m = .sleep panel → o = some (.face f) → (s.face f).panel.mode = .retiring →
          (t.face f).panel.retireDelay = some 100) ∧
        (∀ f panel u, m = .sleep panel → o = some (.tail f) → (s.face f).panel.tail = some u →
          (t.face f).panel.tail = some ⟨u.panel, some 100⟩) ∧
        (o = none → s.facesChangeOnly t [.request]) ∧
        (∀ w, t.heldBack w = true ↔ w.tail = false ∧ (t.face w.face).panel.awaiting.isSome = true) ∧
        (∀ w, (w.kind = .wake → t.supMessage w = .wake w.panel) ∧ (w.kind = .poll → t.supMessage w = .poll w.panel) ∧
          (w.kind = .level → t.supMessage w = .level w.panel (s.face w.face).bright.present) ∧
          (w.kind = .dark → t.supMessage w = .dark w.panel) ∧ (w.kind = .sleep → t.supMessage w = .sleep w.panel)) ∧
        (∀ before first rest, s.link.waiting = before ++ first :: rest → (∀ w ∈ before, t.heldBack w = true) →
          t.heldBack first = false →
          t.link.tx = .sending (t.supMessage first) (some (if first.tail then .tail first.face else .face first.face)) ∧
          t.link.waiting = before ++ rest) ∧
        ((∀ w ∈ s.link.waiting, t.heldBack w = true) →
          t.link.waiting = s.link.waiting ∧
          (s.link.engineWaits = true → t.link = ⟨.engineTurn, s.link.waiting, false⟩) ∧
          (s.link.engineWaits = false → s.engine.render.isSome = true → t.link = ⟨.free, s.link.waiting, false⟩))

/-! ### Overrides and approach inputs (chapter 9) -/

/-- SHOW NOTICE and SHOW DISRUPTION set their text and raise their entry on every face of the mask with one raise stamp; SHOW
FALLBACK sets a text alone (R152, R156). CLEAR removes its source's entry from the faces of the mask and keeps the text;
CLEAR WARNING stops their warning timers as well (R158). The reports are those of one comparison of each face (R153, R154). A
text the part does not allow is refused with FORMAT, a mask that names a face above 3 with RANGE (R56, R156, R158). An entry
raised stands before the first of its level or below; the current override is the first of level 2 or 3 (R151, R152). That
stamps are counted without a bound is the model's deduction (notes/assumptions/21.md). -/
def Obligations.ShowRaisesAndClearRemoves : Prop :=
  [Source.stationNotice, .stationDisruption, .feedLost, .stationWarning, .approachA, .approachB].map Source.level =
    [1, 2, 2, 3, 3, 3] ∧
  (∀ (e : OverrideEntry) (es : List OverrideEntry), ∃ n ≤ es.length,
    insertEntry e es = es.take n ++ e :: es.drop n ∧ (∀ d ∈ es.take n, e.source.level < d.source.level) ∧
      ∀ d, es[n]? = some d → d.source.level ≤ e.source.level) ∧
  (∀ (x : Face) (src : Source), (x.holds src = true ↔ ∃ e ∈ x.overrides, e.source = src) ∧
    (x.currentOverride = some src ↔
      ∃ n e, x.overrides[n]? = some e ∧ e.source = src ∧ 2 ≤ e.source.level ∧
        ∀ d ∈ x.overrides.take n, d.source.level < 2)) ∧
  (∀ lo hi x, textAllowed lo hi x = true ↔
    lo ≤ x.length ∧ x.length ≤ hi ∧ ∀ c ∈ x, (32 ≤ c ∧ c ≤ 126) ∨ (128 ≤ c ∧ c ≤ 159)) ∧
  (∀ (s : State) (addr : Nat) (b : ShowBody), s.takesFrame addr = true → b.mask < 256 →
    ∃ t u v, exec (.showNotice addr (.fields b)) s = .next t ∧ exec (.showDisruption addr (.fields b)) s = .next u ∧
      exec (.showFallback addr (.fields b)) s = .next v ∧
      (textAllowed 0 160 b.text = false →
        s.refuses t Kind.show addr .format ∧ s.refuses u Kind.show addr .format ∧ s.refuses v Kind.show addr .format) ∧
      (textAllowed 0 160 b.text = true → 16 ≤ b.mask →
        s.refuses t Kind.show addr .range ∧ s.refuses u Kind.show addr .range ∧ s.refuses v Kind.show addr .range)) ∧
  (∀ (s : State) (addr mask : Nat), s.takesFrame addr = true → 16 ≤ mask → mask < 256 →
    ∃ t u v, exec (.clearNotice addr (.fields mask)) s = .next t ∧ exec (.clearDisruption addr (.fields mask)) s = .next u ∧
      exec (.clearWarning addr (.fields mask)) s = .next v ∧ s.refuses t Kind.clear addr .range ∧
      s.refuses u Kind.clear addr .range ∧ s.refuses v Kind.clear addr .range) ∧
  (∀ (s : State) (addr : Nat) (b : ShowBody), s.takesFrame addr = true → textAllowed 0 160 b.text = true → b.mask < 16 →
    (∃ t, exec (.showNotice addr (.fields b)) s = .next t ∧
      s.carriesOut t Kind.show addr .done .none [.texts, .stamps] [.overrides, .flags, .scrolls, .paging, .bright] ∧
      s.reportsOverrides t ∧
      t.texts = { s.texts with notice := b.text } ∧ t.nextStamp = s.nextStamp + 1 ∧
      ∀ f, (t.face f).overrides =
        if b.mask.testBit f.toNat then
          insertEntry ⟨.stationNotice, s.nextStamp⟩
            ((s.beginGoodFrame.face f).overrides.filter fun e => e.source ≠ .stationNotice)
        else (s.beginGoodFrame.face f).overrides) ∧
    (∃ t, exec (.showDisruption addr (.fields b)) s = .next t ∧
      s.carriesOut t Kind.show addr .done .none [.texts, .stamps] [.overrides, .flags, .scrolls, .paging, .bright] ∧
      s.reportsOverrides t ∧
      t.texts = { s.texts with disruption := b.text } ∧ t.nextStamp = s.nextStamp + 1 ∧
      (∀ f, (t.face f).overrides =
        if b.mask.testBit f.toNat then
          insertEntry ⟨.stationDisruption, s.nextStamp⟩
            ((s.beginGoodFrame.face f).overrides.filter fun e => e.source ≠ .stationDisruption)
        else (s.beginGoodFrame.face f).overrides) ∧
      ∀ f, b.mask.testBit f.toNat = true → (∀ e ∈ (s.face f).overrides, e.source.level ≠ 3) →
        (t.face f).currentOverride = some .stationDisruption) ∧
    ∃ t, exec (.showFallback addr (.fields b)) s = .next t ∧
      s.carriesOut t Kind.show addr .done .none [.texts] [.flags, .paging] ∧ s.reportsOverrides t ∧
      t.texts = { s.texts with feedLost := b.text }) ∧
  ∀ (s : State) (addr mask : Nat), s.takesFrame addr = true → mask < 16 →
    (∃ t, exec (.clearNotice addr (.fields mask)) s = .next t ∧
      s.carriesOut t Kind.clear addr .done .none [] [.overrides, .flags, .scrolls, .paging, .bright] ∧ s.reportsOverrides t ∧
      ∀ f, (t.face f).overrides = (s.beginGoodFrame.face f).overrides.filter fun e =>
        !(mask.testBit f.toNat && e.source == .stationNotice)) ∧
    (∃ t, exec (.clearDisruption addr (.fields mask)) s = .next t ∧
      s.carriesOut t Kind.clear addr .done .none [] [.overrides, .flags, .scrolls, .paging, .bright] ∧ s.reportsOverrides t ∧
      ∀ f, (t.face f).overrides = (s.beginGoodFrame.face f).overrides.filter fun e =>
        !(mask.testBit f.toNat && e.source == .stationDisruption)) ∧
    ∃ t, exec (.clearWarning addr (.fields mask)) s = .next t ∧
      s.carriesOut t Kind.clear addr .done .none [] [.overrides, .flags, .scrolls, .paging, .warning, .bright] ∧
      s.reportsOverrides t ∧
      ∀ f, ((t.face f).overrides = (s.beginGoodFrame.face f).overrides.filter fun e =>
          !(mask.testBit f.toNat && e.source == .stationWarning)) ∧
        (t.face f).warning = if mask.testBit f.toNat then none else (s.face f).warning

/-- WARN sets its text, raises its level-3 entry on the faces of the mask with one raise stamp and starts their timers,
clamped to 600 s, or stops them for a duration of 0, and leaves the other faces' entries and timers; the expiry of a face's
timer removes the entry from that face. A text the part does not allow is refused with FORMAT, a mask that names a face above
3 with RANGE (R56, R157). Reports are those of one comparison (R153). Stamps are counted without a bound
(notes/assumptions/21.md, the model's deduction). That the expiry of a stopped timer changes nothing is the model's choice
(notes/assumptions/2.md). -/
def Obligations.WarnRaisesUntilItsTimer : Prop :=
  ∀ s : State,
    (∀ (addr : Nat) (b : WarnBody), s.takesFrame addr = true → b.mask < 256 →
      ∃ t, exec (.warn addr (.fields b)) s = .next t ∧
        (textAllowed 0 160 b.text = false → s.refuses t Kind.warn addr .format) ∧
        (textAllowed 0 160 b.text = true → 16 ≤ b.mask → s.refuses t Kind.warn addr .range)) ∧
    (∀ (addr : Nat) (b : WarnBody), s.takesFrame addr = true → textAllowed 0 160 b.text = true → b.mask < 16 →
      ∃ t, exec (.warn addr (.fields b)) s = .next t ∧
        s.carriesOut t Kind.warn addr .done .none [.texts, .stamps]
          [.overrides, .flags, .scrolls, .paging, .warning, .bright] ∧ s.reportsOverrides t ∧
        t.texts = { s.texts with warning := b.text } ∧ t.nextStamp = s.nextStamp + 1 ∧
        (∀ f, (t.face f).overrides =
          if b.mask.testBit f.toNat then
            insertEntry ⟨.stationWarning, s.nextStamp⟩
              ((s.beginGoodFrame.face f).overrides.filter fun e => e.source ≠ .stationWarning)
          else (s.beginGoodFrame.face f).overrides) ∧
        (∀ f, b.mask.testBit f.toNat = false → (t.face f).warning = (s.face f).warning) ∧
        ∀ f, b.mask.testBit f.toNat = true →
          (t.face f).warning = (if b.duration = 0 then none else some (min 600 b.duration)) ∧
          ((∀ e ∈ (s.face f).overrides, e.source.level ≤ 3) → (t.face f).currentOverride = some .stationWarning) ∧
          ((t.face f).bright.level3 = (s.face f).bright.level3 ∨ (t.face f).bright.level3 = true)) ∧
    ∀ f, ((s.face f).warning = none → exec (.warningTimerExpiry f) s = .next s) ∧
      ((s.face f).warning.isSome = true →
        ∃ t, exec (.warningTimerExpiry f) s = .next t ∧
          s.eventChanges t [] [.overrides, .flags, .scrolls, .paging, .warning, .bright] ∧ s.reportsOverrides t ∧
          (t.face f).overrides = (s.face f).overrides.filter (fun e => e.source ≠ .stationWarning) ∧
          (t.face f).warning = none ∧ s.othersChangeOnly t f [.request])

/-- An accepted APPROACH ends a present entry, stores the configuration, hold and duration clamped, keeps the text for an
empty one, and raises the entry at once in LOW with the level LOW, so that the faces of the mask hold it then and no face
otherwise. A code that names no input or sensitivity and a text the part does not allow are refused with FORMAT, a mask that
names a face above 3 with RANGE (R153, R160). That the entry counts as present while the input is not CLEAR is the model's
deduction (notes/assumptions/19.md). The entries of other sources are kept, and a raise takes the next stamp (R152); that
stamps are counted without a bound is the model's deduction (notes/assumptions/21.md). -/
def Obligations.ApproachReconfiguresTheInput : Prop :=
  (∀ (s : State) (addr : Nat) (b : ApproachBody), s.takesFrame addr = true → b.mask < 256 →
    ∃ t, exec (.approach addr (.fields b)) s = .next t ∧
      (1 < b.input ∨ 4 < b.sensitivity ∨ textAllowed 0 160 b.text = false → s.refuses t Kind.approach addr .format) ∧
      (b.input ≤ 1 → b.sensitivity ≤ 4 → textAllowed 0 160 b.text = true → 16 ≤ b.mask →
        s.refuses t Kind.approach addr .range)) ∧
  ∀ (s : State) (addr : Nat) (b : ApproachBody) (i : InputId) (sens : Sensitivity), s.takesFrame addr = true →
    inputOf b.input = some i → sensitivityOf b.sensitivity = some sens → textAllowed 0 160 b.text = true → b.mask < 16 →
    ∃ t, exec (.approach addr (.fields b)) s = .next t ∧
      s.carriesOut t Kind.approach addr .done .none [.texts, .stamps, .approach, .notices]
        [.overrides, .flags, .scrolls, .paging, .bright] ∧
      t.approach.get i =
        { s.approach.get i with
          sensitivity := sens
          mask := maskFaces b.mask
          hold := min 60 b.hold
          duration := max 5 (min 180 b.duration)
          state := if sens = .low ∧ (s.approach.get i).debounced = false then .active else .clear
          holdTimer := none
          durationTimer := none } ∧
      (∀ k, k ≠ i → t.approach.get k = s.approach.get k) ∧ s.reportsOverrides t ∧
      (((s.approach.get i).state = .clear → ∀ f, (s.face f).holds (sourceOf i) = false) →
        ∀ f, (t.face f).holds (sourceOf i) =
          (decide (sens = .low) && !(s.approach.get i).debounced && b.mask.testBit f.toNat)) ∧
      t.texts.get (sourceOf i) = (if b.text = [] then s.texts.get (sourceOf i) else b.text) ∧
      (∀ kept : FaceId → List OverrideEntry,
        kept = (fun f => (s.beginGoodFrame.face f).overrides.filter fun e =>
          (s.approach.get i).state = .clear ∨ e.source ≠ sourceOf i) →
        (sens = .low → (s.approach.get i).debounced = false →
          t.nextStamp = s.nextStamp + 1 ∧
          ∀ f, (t.face f).overrides =
            if b.mask.testBit f.toNat then
              insertEntry ⟨sourceOf i, s.nextStamp⟩ ((kept f).filter fun e => e.source ≠ sourceOf i)
            else kept f) ∧
        (¬(sens = .low ∧ (s.approach.get i).debounced = false) →
          t.nextStamp = s.nextStamp ∧ ∀ f, (t.face f).overrides = kept f)) ∧
      (sens = .low → (s.approach.get i).debounced = false →
        t.notices = postNotice (.approach i .raised (maskFaces b.mask)) s.beginGoodFrame.notices ∧
        ∀ f, b.mask.testBit f.toNat = true → (t.face f).holds (sourceOf i) = true) ∧
      (¬(sens = .low ∧ (s.approach.get i).debounced = false) →
        ((s.approach.get i).state = .clear → t.notices = s.beginGoodFrame.notices) ∧
        ((s.approach.get i).state ≠ .clear →
          t.notices = postNotice (.approach i (.ended .reconfigured) (s.approach.get i).mask) s.beginGoodFrame.notices ∧
          ∀ f, (t.face f).holds (sourceOf i) = false))

/-- A raw level that differs from the debounced one starts the debounce timer for 20 ms, a return stops it; its expiry takes
the raw level, and in OFF the edge has no effect (R159). That a change to the level the pin has, and the expiry of a stopped
timer, change nothing is the model's (notes/assumptions/10.md, 2.md). -/
def Obligations.InputsAreDebounced : Prop :=
  ∀ (s : State) (i : InputId),
    (∀ level, ∃ t, exec (.approachPinChange i level) s = .next t ∧ s.changesOnly t [.approach] ∧
      (∀ k, k ≠ i → t.approach.get k = s.approach.get k) ∧
      (level = (s.approach.get i).raw → t = s) ∧
      (level ≠ (s.approach.get i).raw →
        t.approach.get i =
          { s.approach.get i with
            raw := level
            debounce := if level = (s.approach.get i).debounced then none else some 20 })) ∧
    ((s.approach.get i).debounce = none → exec (.debounceExpiry i) s = .next s) ∧
    ((s.approach.get i).debounce.isSome = true → (s.approach.get i).raw ≠ (s.approach.get i).debounced →
      ∃ t, exec (.debounceExpiry i) s = .next t ∧
        s.eventChanges t [.approach, .notices, .stamps] [.overrides, .flags, .scrolls, .paging, .bright] ∧
        (t.approach.get i).debounced = (s.approach.get i).raw ∧ (t.approach.get i).debounce = none ∧
        (∀ k, k ≠ i → t.approach.get k = s.approach.get k) ∧
        ((s.approach.get i).sensitivity = .off →
          s.changesOnly t (.approach :: settleBlocks) ∧ s.facesChangeOnly t [.request]))

/-- In LOW a falling edge raises the entry of a CLEAR input, and a rising edge of an ACTIVE one holds it or, with a hold of
0, ends it; in an edge mode a qualifying edge raises it on the faces of the mask for the duration or renews it without a
notice. Every other edge leaves all but the debounced level as it was (R153, R161, R162). A raise puts the entry, with the
next raise stamp, at the front of its level on the faces of the mask, keeps the other entries, and posts RAISED (R152, R163);
that stamps are counted without a bound is the model's deduction (notes/assumptions/21.md). -/
def Obligations.EdgesRaiseAndRenew : Prop :=
  ∀ (s : State) (i : InputId), (s.approach.get i).debounce.isSome = true →
    (s.approach.get i).raw ≠ (s.approach.get i).debounced →
    ∃ t, exec (.debounceExpiry i) s = .next t ∧ s.reportsOverrides t ∧
      ((s.approach.get i).sensitivity = .off ∨
          ((s.approach.get i).sensitivity = .low ∧
            (((s.approach.get i).raw = true ∧ (s.approach.get i).state ≠ .active) ∨
              ((s.approach.get i).raw = false ∧ (s.approach.get i).state = .active))) ∨
          ((s.approach.get i).sensitivity = .rising ∧ (s.approach.get i).raw = false) ∨
          ((s.approach.get i).sensitivity = .falling ∧ (s.approach.get i).raw = true) →
        t.approach.get i = { s.approach.get i with debounced := (s.approach.get i).raw, debounce := none } ∧
          s.changesOnly t (.approach :: settleBlocks) ∧ s.facesChangeOnly t [.request]) ∧
      ((s.approach.get i).sensitivity = .low → (s.approach.get i).raw = false → (s.approach.get i).state = .clear →
        (t.approach.get i).state = .active ∧ s.raisesInput t i) ∧
      ((s.approach.get i).sensitivity = .low → (s.approach.get i).raw = true → (s.approach.get i).state = .active →
        ((s.approach.get i).hold ≠ 0 →
          (t.approach.get i).state = .holding ∧ (t.approach.get i).holdTimer = some (s.approach.get i).hold ∧
            s.changesOnly t (.approach :: settleBlocks)) ∧
        ((s.approach.get i).hold = 0 →
          (t.approach.get i).state = .clear ∧ (∀ f, (t.face f).holds (sourceOf i) = false) ∧ t.nextStamp = s.nextStamp ∧
            (∀ f, (t.face f).overrides = (s.face f).overrides.filter fun e => e.source ≠ sourceOf i) ∧
            t.notices = postNotice (.approach i (.ended .holdExpired) (s.approach.get i).mask) s.notices)) ∧
      ((s.approach.get i).sensitivity = .low → (s.approach.get i).raw = false → (s.approach.get i).state = .holding →
        (t.approach.get i).state = .active ∧ (t.approach.get i).holdTimer = none ∧
          s.changesOnly t (.approach :: settleBlocks) ∧ s.facesChangeOnly t [.request]) ∧
      (((s.approach.get i).sensitivity = .both ∨
          ((s.approach.get i).sensitivity = .rising ∧ (s.approach.get i).raw = true) ∨
          ((s.approach.get i).sensitivity = .falling ∧ (s.approach.get i).raw = false)) →
        (t.approach.get i).durationTimer = some (s.approach.get i).duration ∧
        ((s.approach.get i).state = .clear →
          (t.approach.get i).state = .active ∧ s.raisesInput t i) ∧
        ((s.approach.get i).state ≠ .clear →
          (t.approach.get i).state = (s.approach.get i).state ∧ s.changesOnly t (.approach :: settleBlocks) ∧
            s.facesChangeOnly t [.request]))

/-- The expiry of a running hold or duration timer removes the input's entry from every face, makes the input CLEAR and posts
ENDED with its reason (R153, R161, R162). That the expiry of a stopped timer changes nothing is the model's choice
(notes/assumptions/2.md). -/
def Obligations.InputTimersEndTheEntry : Prop :=
  ∀ (s : State) (i : InputId),
    ((s.approach.get i).holdTimer = none → exec (.holdTimerExpiry i) s = .next s) ∧
    ((s.approach.get i).durationTimer = none → exec (.durationTimerExpiry i) s = .next s) ∧
    ((s.approach.get i).holdTimer.isSome = true →
      ∃ t, exec (.holdTimerExpiry i) s = .next t ∧
        s.eventChanges t [.approach, .notices] [.overrides, .flags, .scrolls, .paging, .bright] ∧ s.reportsOverrides t ∧
        t.approach.get i = { s.approach.get i with state := .clear, holdTimer := none, durationTimer := none } ∧
        (∀ f, (t.face f).overrides = (s.face f).overrides.filter fun e => e.source ≠ sourceOf i) ∧
        t.notices = postNotice (.approach i (.ended .holdExpired) (s.approach.get i).mask) s.notices) ∧
    ((s.approach.get i).durationTimer.isSome = true →
      ∃ t, exec (.durationTimerExpiry i) s = .next t ∧
        s.eventChanges t [.approach, .notices] [.overrides, .flags, .scrolls, .paging, .bright] ∧ s.reportsOverrides t ∧
        t.approach.get i = { s.approach.get i with state := .clear, holdTimer := none, durationTimer := none } ∧
        (∀ f, (t.face f).overrides = (s.face f).overrides.filter fun e => e.source ≠ sourceOf i) ∧
        t.notices = postNotice (.approach i (.ended .durationExpired) (s.approach.get i).mask) s.notices)

/-- The silence timer's expiry raises FEED_LOST on all four faces with one raise stamp, at the front of its level, the other
entries staying in their order, and posts FEED LOST, once for each silence (R152, R155, R192); the first two steps of the
next good frame remove it, post FEED RESTORED and restart the timer (R155, R187, R192). The reports of the removal are made
once, at the end of the frame, as a broadcast COLLECT shows, which does nothing else (R153, R154, R190). That stamps are
counted without a bound is the model's deduction (notes/assumptions/21.md). -/
def Obligations.SilenceLosesTheFeed : Prop :=
  ∀ s : State,
    (s.port.silence = .expired → exec .silenceExpiry s = .next s) ∧
    (∀ limit, s.port.silence = .running limit →
      ∃ t, exec .silenceExpiry s = .next t ∧
        s.eventChanges t [.port, .stamps, .notices] [.overrides, .flags, .scrolls, .paging, .bright] ∧
        s.reportsOverrides t ∧ t.port = { s.port with silence := .expired } ∧
        t.notices = postNotice (.feed false) s.notices ∧ t.nextStamp = s.nextStamp + 1 ∧
        ∀ f, (t.face f).holds .feedLost = true ∧
          (t.face f).overrides =
            insertEntry ⟨.feedLost, s.nextStamp⟩ ((s.face f).overrides.filter fun e => e.source ≠ .feedLost)) ∧
    s.beginGoodFrame.port = { s.port with receiver := .idle, silence := .running s.timing.silenceLimit } ∧
    s.changesOnly s.beginGoodFrame [.faces, .notices, .port] ∧ s.facesChangeOnly s.beginGoodFrame [.overrides] ∧
    (∀ f, (s.beginGoodFrame.face f).overrides = (s.face f).overrides.filter fun e => e.source ≠ .feedLost) ∧
    ((∃ f, (s.face f).holds .feedLost = true) → s.beginGoodFrame.notices = postNotice (.feed true) s.notices) ∧
    ((∀ f, (s.face f).holds .feedLost = false) → s.changesOnly s.beginGoodFrame [.port]) ∧
    (s.takesFrame 0 = true →
      ∃ t, exec (.collect 0 (.fields ())) s = .next t ∧
        s.eventChanges t [.notices, .port] [.overrides, .flags, .scrolls, .paging, .bright] ∧
        s.reportsOverrides t ∧ (∀ f, (t.face f).overrides = (s.beginGoodFrame.face f).overrides) ∧
        ((∀ f, (s.face f).holds .feedLost = false) → s.changesOnly t [.port]))

/-! ### Panels and brightness (chapter 10) -/

/-- POWER ON by panel state: STATE where the face is UNBOUND, ABSENT or RETIRING, DONE where it is WAKING or LIVE, and in OFF
and FAULTED the wake starts with the supply ON and the settle timer at 50 ms. POWER OFF: DONE without effect in UNBOUND,
ABSENT, OFF and RETIRING; a wake ends with the supply OFF, a fault is left for OFF, and a LIVE face retires, each with cause
REQUESTED (R167, R168, R174). -/
def Obligations.PowerActsByPanelState : Prop :=
  ∀ (s : State) (addr : Nat), s.takesFrame addr = true →
    (∀ n, 4 ≤ n → ∃ t, exec (.powerOn addr (.fields n)) s = .next t ∧ s.refuses t Kind.power addr .range) ∧
    (∀ f, ∃ t, exec (.powerOn addr (.fields f.toNat)) s = .next t ∧
      ((s.face f).panel.mode = .unbound ∨ (s.face f).panel.mode = .absent ∨ (s.face f).panel.mode = .retiring →
        s.refuses t Kind.power addr .state) ∧
      ((s.face f).panel.mode = .waking ∨ (s.face f).panel.mode = .live →
        s.carriesOut t Kind.power addr .done (.panel (s.face f).panel.mode (s.face f).panel.cause) [] []) ∧
      ((s.face f).panel.mode = .off ∨ (s.face f).panel.mode = .faulted →
        s.carriesOut t Kind.power addr .accepted (.panel .waking (s.face f).panel.cause) [.notices] [.panel] ∧
        s.emptyFrame.othersChangeOnly t f [.request] ∧
        (t.face f).panel =
          { (s.face f).panel with
            mode := .waking, power := true, step := some .settling, settle := some 50, tail := none } ∧
        t.notices = postNotice (.faceState f .waking (s.face f).panel.cause) s.beginGoodFrame.notices)) ∧
    (∀ n, 4 ≤ n → ∃ t, exec (.powerOff addr (.fields n)) s = .next t ∧ s.refuses t Kind.power addr .range) ∧
    ∀ f, ∃ t, exec (.powerOff addr (.fields f.toNat)) s = .next t ∧
      ((s.face f).panel.mode = .unbound ∨ (s.face f).panel.mode = .absent ∨ (s.face f).panel.mode = .off ∨
          (s.face f).panel.mode = .retiring →
        s.carriesOut t Kind.power addr .done (.panel (s.face f).panel.mode (s.face f).panel.cause) [] []) ∧
      ((s.face f).panel.mode = .waking →
        s.carriesOut t Kind.power addr .done (.panel .off .requested) [.notices] [.panel] ∧
        s.emptyFrame.othersChangeOnly t f [.request] ∧
        (t.face f).panel =
          { (s.face f).panel with
            mode := .off, cause := .requested, power := false, step := none, settle := none, wake := none } ∧
        (∀ m ∈ t.link.waiting, m.face = f → m.tail = true) ∧
        t.notices = postNotice (.faceState f .off .requested) s.beginGoodFrame.notices) ∧
      ((s.face f).panel.mode = .faulted →
        s.carriesOut t Kind.power addr .done (.panel .off .requested) [.notices] [.panel] ∧
        s.emptyFrame.othersChangeOnly t f [.request] ∧
        (t.face f).panel = { (s.face f).panel with mode := .off, cause := .requested } ∧
        t.notices = postNotice (.faceState f .off .requested) s.beginGoodFrame.notices) ∧
      ((s.face f).panel.mode = .live →
        s.carriesOut t Kind.power addr .done (.panel .retiring .requested) [.notices] darkParts ∧
        s.emptyFrame.othersChangeOnly t f [.request] ∧ s.startsRetire t f .requested ∧
        t.notices = postNotice (.faceState f .retiring .requested) s.beginGoodFrame.notices)

/-- DIM sets the mode of each face of the mask. MANUAL sets the target, clamped to 63, and a pending report, which a LIVE
face already at that level posts at once; AUTO takes the target from the curve where the face holds a reading. Under both the
present level stays, and a change of the effective target of a LIVE face leaves its ramp timer running. A mask that names a
face above 3 is refused with RANGE (R176, R178). -/
def Obligations.DimSetsTheTarget : Prop :=
  (∀ (s : State) (addr : Nat) (b : DimBody), s.takesFrame addr = true → 16 ≤ b.mask → b.mask < 256 →
    ∃ t u, exec (.dimManual addr (.fields b)) s = .next t ∧ exec (.dimAuto addr (.fields b)) s = .next u ∧
      s.refuses t Kind.dim addr .range ∧ s.refuses u Kind.dim addr .range) ∧
  ∀ (s : State) (addr : Nat) (b : DimBody), s.takesFrame addr = true → b.mask < 16 →
    (∃ t, exec (.dimManual addr (.fields b)) s = .next t ∧
      s.carriesOut t Kind.dim addr (if b.mask = 0 then .done else .accepted) .none [.notices] [.bright] ∧
      ((∀ f, b.mask.testBit f.toNat = true → (s.face f).live = true → (s.face f).bright.present ≠ min 63 b.level) →
        t.notices = s.beginGoodFrame.notices) ∧
      (∀ f, b.mask.testBit f.toNat = true → (s.face f).live = true → (s.face f).bright.present = min 63 b.level →
        (∀ g, g ≠ f → b.mask.testBit g.toNat = true → (s.face g).live = true →
          (s.face g).bright.present ≠ min 63 b.level) →
        t.notices = postNotice (.levelReached f (min 63 b.level)) s.beginGoodFrame.notices) ∧
      ∀ f, (b.mask.testBit f.toNat = false → (t.face f).bright = (s.emptyFrame.face f).bright) ∧
        (b.mask.testBit f.toNat = true →
          (t.face f).bright.auto = false ∧ (t.face f).bright.target = min 63 b.level ∧
          (t.face f).bright.present = (s.face f).bright.present ∧
          ((s.face f).live = true → (s.face f).bright.present = min 63 b.level →
            (t.face f).bright.report = none ∧ Notice.levelReached f (min 63 b.level) ∈ t.notices) ∧
          ((s.face f).live = false ∨ (s.face f).bright.present ≠ min 63 b.level →
            (t.face f).bright.report = some (min 63 b.level)) ∧
          ((s.face f).live = true → (t.face f).bright.effective ≠ (s.emptyFrame.face f).bright.effective →
            (t.face f).bright.ramp.isSome = true))) ∧
    ∃ t, exec (.dimAuto addr (.fields b)) s = .next t ∧ s.carriesOut t Kind.dim addr .done .none [] [.bright] ∧
      ∀ f, (b.mask.testBit f.toNat = false → (t.face f).bright = (s.emptyFrame.face f).bright) ∧
        (b.mask.testBit f.toNat = true →
          (t.face f).bright.auto = true ∧ (t.face f).bright.report = none ∧
          (t.face f).bright.present = (s.face f).bright.present ∧
          ((s.face f).panel.ambient = none → (t.face f).bright.target = (s.face f).bright.target) ∧
          (∀ x, (s.face f).panel.ambient = some x → (t.face f).bright.target = curveValue s.curve x) ∧
          ((s.face f).live = true → (t.face f).bright.effective ≠ (s.emptyFrame.face f).bright.effective →
            (t.face f).bright.ramp.isSome = true))

/-- The curve value: the first level below the first point, the last from the last point on, and between two points the lower
level with the interpolated part, rounded to the nearest with halves up. CURVE is taken whole or refused: it needs levels up
to 63, readings up to 1023, and readings that do not fall; the targets of the faces in AUTO that hold a reading are judged
again, without hysteresis (R179). -/
def Obligations.TheCurveSetsAutoTargets : Prop :=
  (∀ (c : List CurvePoint) (x : Nat), CurveInv c →
    (∀ p rest, c = p :: rest → x < p.ambient → curveValue c x = p.level) ∧
    (∀ rest p, c = rest ++ [p] → p.ambient ≤ x → curveValue c x = p.level) ∧
    (∀ before p q rest, c = before ++ p :: q :: rest → p.ambient ≤ x → x < q.ambient →
      ∃ part : Int, (curveValue c x : Int) = p.level + part ∧
        2 * ((q.ambient : Int) - p.ambient) * part ≤
          2 * ((q.level : Int) - p.level) * ((x : Int) - p.ambient) + ((q.ambient : Int) - p.ambient) ∧
        2 * ((q.level : Int) - p.level) * ((x : Int) - p.ambient) + ((q.ambient : Int) - p.ambient) <
          2 * ((q.ambient : Int) - p.ambient) * (part + 1)) ∧
    curveValue c x ≤ 63) ∧
  ∀ (s : State) (addr : Nat) (ps : List RawPoint), s.takesFrame addr = true → ps.length = 8 →
    ∃ t, exec (.curve addr (.fields ps)) s = .next t ∧
      ((∃ p ∈ ps, 1023 < p.ambient ∨ 63 < p.level) ∨ ¬(ps.Pairwise fun p q => p.ambient ≤ q.ambient) →
        s.refuses t Kind.curve addr .range) ∧
      ((∀ p ∈ ps, p.ambient ≤ 1023 ∧ p.level ≤ 63) → (ps.Pairwise fun p q => p.ambient ≤ q.ambient) →
        s.carriesOut t Kind.curve addr .done .none [.curve] [.bright] ∧
        t.curve = ps.map (fun p => ⟨p.ambient, p.level⟩) ∧
        ∀ f, (t.face f).bright.auto = (s.face f).bright.auto ∧
          ((s.face f).bright.auto = false ∨ (s.face f).panel.ambient = none →
            (t.face f).bright.target = (s.face f).bright.target) ∧
          ∀ x, (s.face f).bright.auto = true → (s.face f).panel.ambient = some x →
            (t.face f).bright.target = curveValue t.curve x)

/-- A rising sense input makes an ABSENT face OFF, and wakes it if its auto wake is on. A falling one ends a shutdown tail
and makes every other bound face ABSENT with cause REMOVED: supply OFF, timers stopped, messages withdrawn (R166, R182). That
a rise of a high input and a fall of a low one change nothing, and that an UNBOUND face stores the level, is the model's
deduction (notes/assumptions/10.md). -/
def Obligations.SenseInputsMoveTheFace : Prop :=
  ∀ (s : State) (f : FaceId),
    ((s.face f).panel.sense = true → exec (.senseRise f) s = .next s) ∧
    ((s.face f).panel.sense = false → exec (.senseFall f) s = .next s) ∧
    ((s.face f).panel.sense = false →
      ∃ t, exec (.senseRise f) s = .next t ∧ s.eventChanges t [.notices] [.panel] ∧ s.othersChangeOnly t f [.request] ∧
        ((s.face f).panel.mode ≠ .absent →
          (t.face f).panel = { (s.face f).panel with sense := true } ∧ s.agrees t .notices) ∧
        ((s.face f).panel.mode = .absent → (s.face f).record.autoWake = false →
          (t.face f).panel = { (s.face f).panel with sense := true, mode := .off } ∧
          t.notices = postNotice (.faceState f .off (s.face f).panel.cause) s.notices) ∧
        ((s.face f).panel.mode = .absent → (s.face f).record.autoWake = true →
          (t.face f).panel =
            { (s.face f).panel with
              sense := true, mode := .waking, power := true, step := some .settling, settle := some 50, tail := none } ∧
          t.notices = postNotice (.faceState f .waking (s.face f).panel.cause) s.notices)) ∧
    ((s.face f).panel.sense = true →
      ∃ t, exec (.senseFall f) s = .next t ∧ s.eventChanges t [.notices] darkParts ∧ s.othersChangeOnly t f [.request] ∧
        (t.face f).panel.sense = false ∧ (t.face f).panel.tail = none ∧
        ((s.face f).panel.mode = .unbound ∨ (s.face f).panel.mode = .absent →
          (t.face f).panel =
            { (s.face f).panel with
              sense := false, tail := none, power := (s.face f).panel.power && (s.face f).panel.tail.isNone } ∧
          s.agrees t .notices) ∧
        ((s.face f).panel.mode ≠ .unbound → (s.face f).panel.mode ≠ .absent →
          (t.face f).panel.mode = .absent ∧ (t.face f).panel.cause = .removed ∧ (t.face f).panel.power = false ∧
          (t.face f).panel.step = none ∧ (t.face f).panel.settle = none ∧ (t.face f).panel.wake = none ∧
          (t.face f).panel.retireDelay = none ∧ (t.face f).panel.poll = none ∧ (t.face f).panel.awaiting = none ∧
          (∀ m ∈ t.link.waiting, m.face = f → m.tail = true) ∧
          t.notices = postNotice (.faceState f .absent .removed) s.notices ∧
          ((s.face f).live = true →
            (t.face f).record.request = .none ∧ (∀ j, t.staleLine f j) ∧ (t.face f).bright.present = 0 ∧
              ∀ q, t.engine.render = some q → q.face ≠ f)))

/-- The wake: the expiry of the settle timer asks for WAKE; READY for the waking panel with a size in range makes the face
LIVE with every line stale, its areas and its rotation started and its frame asked for; the expiry of the wake timer makes it
FAULTED with cause NO_ANSWER (R91, R104, R168 to R170). A pending report of level 0 is posted as the face becomes LIVE
(R178). The model's own: the expiry of a stopped timer changes nothing (notes/assumptions/2.md), READY may come while WAKE
waits (notes/assumptions/13.md), and it starts the ramp timer whatever the effective target (notes/assumptions/17.md). -/
def Obligations.TheWakeEndsInLiveOrFaulted : Prop :=
  ∀ (s : State) (f : FaceId),
    ((s.face f).panel.settle = none → exec (.settleTimerExpiry f) s = .next s) ∧
    ((s.face f).panel.settle.isSome = true →
      ∃ t, exec (.settleTimerExpiry f) s = .next t ∧ s.eventChanges t [] [.panel] ∧ s.othersChangeOnly t f [.request] ∧
        (t.face f).panel = { (s.face f).panel with settle := none, step := some .awaitingReady } ∧
        (⟨f, false, (s.face f).record.panelId, .wake⟩ ∈ t.link.waiting ∨
          t.link.tx = .sending (.wake (s.face f).record.panelId) (some (.face f)))) ∧
    ((s.face f).panel.wake = none → exec (.wakeTimerExpiry f) s = .next s) ∧
    ((s.face f).panel.wake.isSome = true →
      ∃ t, exec (.wakeTimerExpiry f) s = .next t ∧ s.eventChanges t [.notices] [.panel] ∧
        s.othersChangeOnly t f [.request] ∧
        (t.face f).panel =
          { (s.face f).panel with mode := .faulted, cause := .noAnswer, power := false, step := none, wake := none } ∧
        t.notices = postNotice (.faceState f .faulted .noAnswer) s.notices) ∧
    ∀ panel width lines,
      (s.faceOf panel = some f → (s.face f).panel.mode = .waking → (s.face f).panel.step = some .awaitingReady →
        80 ≤ width → width ≤ 384 → 1 ≤ lines → lines ≤ 4 →
        ∃ t, exec (.ready panel width lines) s = .next t ∧
          s.eventChanges t [.notices] (.geometry :: .shown :: darkParts) ∧ s.othersChangeOnly t f [.request] ∧
          (t.face f).panel =
            { (s.face f).panel with
              mode := .live, cause := .none, step := none, settle := none, wake := none, ambient := none
              awaiting := none, poll := some 1000 } ∧
          (t.face f).record.geometry = some ⟨width, lines⟩ ∧ (t.face f).record.shown = .b0 ∧ (∀ j, t.staleLine f j) ∧
          (t.face f).bright.present = 0 ∧ (t.face f).bright.ramp = some s.timing.rampStep ∧
          (t.face f).rotation.startsOver s.timing.followDwell (t.rotationCount (t.face f)) ∧
          (∀ j, ((t.face f).lines.get j).scroll.startsWith
            ((8000 + (s.face f).record.speed) / (2 * (s.face f).record.speed)) (t.measureArea (t.face f) j)) ∧
          (t.face f).page = 0 ∧ (t.face f).record.request ≠ .none ∧
          t.notices =
            postNotice (.faceState f .live .none)
              (if (s.face f).bright.report = some 0 then postNotice (.levelReached f 0) s.notices else s.notices) ∧
          (t.face f).bright.report = (if (s.face f).bright.report = some 0 then none else (s.face f).bright.report)) ∧
      ((∀ g, s.faceOf panel = some g →
          ¬((s.face g).panel.mode = .waking ∧ (s.face g).panel.step = some .awaitingReady ∧ 80 ≤ width ∧ width ≤ 384 ∧
            1 ≤ lines ∧ lines ≤ 4)) →
        exec (.ready panel width lines) s = .next s)

/-- The poll timer asks for one POLL, of the face's panel, and starts again for 1000 ms. A PANEL_STATE that is awaited is
judged in order: overcurrent and overtemp retire the face; otherwise the reading is held, moves an AUTO target that it is two
or more levels off, and a shown buffer against the record's is adopted, with a render of the face that walks abandoned (R143,
R148, R171, R172, R180). That the expiry of a stopped timer changes nothing is the model's choice (notes/assumptions/2.md),
that an answer is awaited only from the end of its message its deduction (notes/assumptions/12.md). -/
def Obligations.PanelStateIsJudgedInOrder : Prop :=
  ∀ (s : State) (f : FaceId),
    ((s.face f).panel.poll = none → exec (.pollTimerExpiry f) s = .next s) ∧
    ((s.face f).panel.poll.isSome = true →
      ∃ t, exec (.pollTimerExpiry f) s = .next t ∧ s.eventChanges t [] [.panel] ∧ s.othersChangeOnly t f [.request] ∧
        (t.face f).panel = { (s.face f).panel with poll := some 1000 } ∧
        (s.messageWaits f .poll = false →
          ⟨f, false, (s.face f).record.panelId, .poll⟩ ∈ t.link.waiting ∨
            t.link.tx = .sending (.poll (s.face f).record.panelId) (some (.face f))) ∧
        (s.messageWaits f .poll = true →
          t.messageWaits f .poll = true ∨
            ∃ m ∈ s.link.waiting, m.face = f ∧ m.tail = false ∧ m.kind = .poll ∧
              t.link.tx = .sending (.poll m.panel) (some (.face f))) ∧
        (t.link.waiting.filter fun m => m.ofFace f && m.kind == .poll).length ≤
          max 1 (s.link.waiting.filter fun m => m.ofFace f && m.kind == .poll).length) ∧
    ∀ panel ambient hot cross shown,
      ((∀ g, s.faceOf panel = some g → (s.face g).live = false ∨ (s.face g).panel.awaiting = none) →
        exec (.panelState panel ambient cross hot shown) s = .next s) ∧
      (s.faceOf panel = some f → (s.face f).live = true → (s.face f).panel.awaiting.isSome = true →
        ∃ t, exec (.panelState panel ambient cross hot shown) s = .next t ∧
          (cross = true → s.retiresFor t f .overcurrent) ∧
          (cross = false → hot = true → s.retiresFor t f .overtemp) ∧
          (cross = false → hot = false →
            s.eventChanges t [] [.panel, .bright, .shown, .flags] ∧ s.othersChangeOnly t f [.request] ∧
            (t.face f).panel = { (s.face f).panel with awaiting := none, ambient := some ambient } ∧
            ((s.face f).bright.auto = false → (t.face f).bright = (s.face f).bright) ∧
            ((s.face f).bright.auto = true →
              (t.face f).bright.target =
                if 2 ≤ curveValue s.curve ambient - (s.face f).bright.target ∨
                    2 ≤ (s.face f).bright.target - curveValue s.curve ambient then
                  curveValue s.curve ambient
                else (s.face f).bright.target) ∧
            (s.awaitsFlip f = true ∨ shown = (s.face f).record.shown →
              (s.face f).agrees (t.face f) .shown ∧ (s.face f).agrees (t.face f) .flags) ∧
            (s.awaitsFlip f = false → shown ≠ (s.face f).record.shown →
              (t.face f).record.shown = shown ∧ (∀ j, t.staleLine f j) ∧
              (s.grants f = true → ∀ q, t.engine.render = some q → q.isFresh))))

/-- The expiry of a running retire delay takes the supply OFF and ends the retire in OFF, for cause REQUESTED, or FAULTED;
that of a tail's retire delay takes the output OFF and ends the tail (R174, R182). That the expiry of a stopped timer changes
nothing is the model's choice (notes/assumptions/2.md). -/
def Obligations.RetireDelaysEndTheSupply : Prop :=
  ∀ (s : State) (f : FaceId),
    ((s.face f).panel.retireDelay = none → exec (.retireDelayExpiry f) s = .next s) ∧
    ((s.face f).panel.retireDelay.isSome = true →
      ∃ t mode, exec (.retireDelayExpiry f) s = .next t ∧ s.eventChanges t [.notices] [.panel] ∧
        s.othersChangeOnly t f [.request] ∧
        mode = (if (s.face f).panel.cause = .requested then PanelMode.off else PanelMode.faulted) ∧
        (t.face f).panel = { (s.face f).panel with mode := mode, retireDelay := none, power := false } ∧
        t.notices = postNotice (.faceState f mode (s.face f).panel.cause) s.notices) ∧
    ((∀ p d, (s.face f).panel.tail ≠ some ⟨p, some d⟩) → exec (.shutdownTailEnd f) s = .next s) ∧
    ∀ p d, (s.face f).panel.tail = some ⟨p, some d⟩ →
      ∃ t, exec (.shutdownTailEnd f) s = .next t ∧ s.changesOnly t [.faces] ∧ s.facesChangeOnly t [.panel] ∧
        s.othersChangeOnly t f [] ∧ (t.face f).panel = { (s.face f).panel with tail := none, power := false }

/-- The expiry of a running ramp timer: the present level moves one toward the effective target, a LEVEL of the face's panel
is asked for unless one waits, and sent with the present level of the moment; a pending report of the level reached is
posted, and the timer stops exactly at the effective target (R171, R176 to R178). The effective target is the target, lifted
to 48 under a level-3 override (R176). That the expiry of a stopped timer changes nothing is the model's choice
(notes/assumptions/2.md). -/
def Obligations.TheRampMovesOneLevel : Prop :=
  ∀ (s : State) (f : FaceId),
    (∀ b : Brightness, b.effective = if b.level3 = true ∧ b.target < 48 then 48 else b.target) ∧
    ((s.face f).bright.ramp = none → exec (.rampTimerExpiry f) s = .next s) ∧
    ((s.face f).bright.ramp.isSome = true →
      ∃ t, exec (.rampTimerExpiry f) s = .next t ∧ s.eventChanges t [.notices] [.bright] ∧
        s.othersChangeOnly t f [.request] ∧
        (t.face f).bright.target = (s.face f).bright.target ∧ (t.face f).bright.effective = (s.face f).bright.effective ∧
        ((s.face f).bright.present < (s.face f).bright.effective →
          (t.face f).bright.present = (s.face f).bright.present + 1) ∧
        ((s.face f).bright.effective < (s.face f).bright.present →
          (t.face f).bright.present + 1 = (s.face f).bright.present) ∧
        ((t.face f).bright.ramp =
          if (t.face f).bright.present = (s.face f).bright.effective then none else some s.timing.rampStep) ∧
        ((s.face f).bright.present = (s.face f).bright.effective →
          t = s.modFace f fun x => { x with bright := { x.bright with ramp := none } }) ∧
        ((s.face f).bright.present ≠ (s.face f).bright.effective →
          (s.messageWaits f .level = false →
            ⟨f, false, (s.face f).record.panelId, .level⟩ ∈ t.link.waiting ∨
              t.link.tx = .sending (.level (s.face f).record.panelId (t.face f).bright.present) (some (.face f))) ∧
          (s.messageWaits f .level = true →
            t.messageWaits f .level = true ∨
              ∃ m ∈ s.link.waiting, m.face = f ∧ m.tail = false ∧ m.kind = .level ∧
                t.link.tx = .sending (.level m.panel (t.face f).bright.present) (some (.face f))) ∧
          ((t.link.waiting.filter fun m => m.ofFace f && m.kind == .level).length ≤
            max 1 (s.link.waiting.filter fun m => m.ofFace f && m.kind == .level).length) ∧
          ((s.face f).live = true → (s.face f).bright.report = some (t.face f).bright.present →
            (t.face f).bright.report = none ∧
            t.notices = postNotice (.levelReached f (t.face f).bright.present) s.notices) ∧
          ((s.face f).bright.report ≠ some (t.face f).bright.present →
            (t.face f).bright.report = (s.face f).bright.report ∧ s.agrees t .notices)))

/-! ### The station link (chapter 11) -/

/-- COLLECT takes the oldest notice, or answers with none; STATUS reports, and clears the error counters where it says so.
Neither changes anything else, and a broadcast of either has no effect beyond the first two steps of its frame (R190, R194,
R195). A notice posted takes the place of a held one of its kind and subject, and otherwise joins as the newest; every other
notice stays where it is (R193). -/
def Obligations.CollectAndStatusReport : Prop :=
  (∀ (n : Notice) (q : List Notice),
    (∀ m : Notice, n.sameSubject m = true ↔ n.subject = m.subject) ∧
    ((∀ m ∈ q, m.subject ≠ n.subject) → postNotice n q = q ++ [n]) ∧
    ∀ k m, q.Pairwise (fun a b => a.subject ≠ b.subject) → q[k]? = some m → m.subject = n.subject →
      postNotice n q = q.set k n) ∧
  (∀ s : State, s.feedHeld = true ↔ ∃ f, (s.face f).holds .feedLost = true) ∧
  ∀ (s : State) (addr : Nat), s.takesFrame addr = true →
    (addr = 0 → ∀ clear,
      exec (.collect addr (.fields ())) s = .next (s.closeFrame s.beginGoodFrame false) ∧
      exec (.status addr (.fields clear)) s = .next (s.closeFrame s.beginGoodFrame false)) ∧
    (addr ≠ 0 →
      (∃ t, exec (.collect addr (.fields ())) s = .next t ∧
        s.answered t Kind.collect addr .done (.notice s.beginGoodFrame.notices.head?) ∧
        t.notices = s.beginGoodFrame.notices.tail ∧
        (s.closeFrame s.beginGoodFrame false).changesOnly t [.port, .notices]) ∧
      ∀ clear, ∃ t, exec (.status addr (.fields clear)) s = .next t ∧
        (s.closeFrame s.beginGoodFrame false).changesOnly t [.port] ∧
        t.port =
          { s.port with
            receiver := .idle
            silence := .running s.timing.silenceLimit
            counters := if clear then ⟨0, 0, 0, 0⟩ else s.port.counters
            reply :=
              some ⟨Kind.status, .done, t.notices.length,
                .status
                  ⟨s.clock.valid, s.clock.hours, s.clock.minutes, s.clock.seconds, s.clock.pmc, s.services.length,
                    s.freeCells, s.openLoads, s.places.length, s.strikes.length, s.scan.map fun sc => (sc.op, sc.id),
                    s.feedHeld,
                    s.faces.map fun x => ⟨x.panel.mode, x.panel.cause, x.bright.present, x.clipped⟩,
                    s.port.counters⟩⟩ })

/-- TIMING stores each carried setting, clamped, and one that carries the silence limit restarts the silence timer for it; an
unknown kind is refused with FORMAT under the kind received (R189, R196). A page that restarts because the same frame ends
feed loss runs with the page dwell it leaves (R153, R154, R187). With the override lists in their order (R152) nothing else
of a face changes: the end of feed loss then leaves the level-3 state of every face, and its ramp, alone. -/
def Obligations.TimingStoresItsSettings : Prop :=
  ∀ (s : State) (addr : Nat), s.takesFrame addr = true →
    (∀ b : TimingBody, ∃ t, exec (.timing addr (.fields b)) s = .next t ∧
      s.emptyFrame.changesOnly t (.timing :: .port :: settleBlocks) ∧
      s.emptyFrame.facesChangeOnly t [.request, .paging, .bright] ∧
      (s.OverridesInv → s.emptyFrame.facesChangeOnly t [.request, .paging]) ∧ s.reportsOverrides t ∧
      t.timing =
        ⟨(b.followDwell.map fun n => max 2 (min 20 n)).getD s.timing.followDwell,
          (b.clearDown.map fun n => min 15 n).getD s.timing.clearDown,
          (b.silenceLimit.map fun n => max 10 (min 600 n)).getD s.timing.silenceLimit,
          (b.wakeTimeout.map fun n => max 100 (min 2000 n)).getD s.timing.wakeTimeout,
          (b.rampStep.map fun n => max 10 (min 500 n)).getD s.timing.rampStep,
          (b.passGap.map fun n => min 5000 n).getD s.timing.passGap,
          (b.loadIdle.map fun n => max 5 (min 120 n)).getD s.timing.loadIdle,
          (b.pageDwell.map fun n => max 2 (min 20 n)).getD s.timing.pageDwell⟩ ∧
      t.port =
        { s.port with
          receiver := .idle
          silence := .running t.timing.silenceLimit
          reply :=
            if addr = 0 then s.port.reply
            else some ⟨Kind.timing, .done, t.notices.length, .timing t.timing⟩ }) ∧
    ∀ kind, ∃ t, exec (.unknownKind addr kind) s = .next t ∧ s.refuses t kind addr .format

/-- What becomes of a well-formed request's frame that is not carried out: in HUNT it is not taken, one that does not concern
the part is discarded, one that ends while a reply is pending is an overrun; and one whose body does not read as the fields
of its kind, or whose kind is unknown, is refused with FORMAT, with some position where it is a PLACE (R183, R185, R188,
R189). Which row such a body stands under is the model's deduction (notes/assumptions/9.md), and so is what a request row
says of a frame that is not taken (notes/assumptions/8.md, 10.md); a PLACE's position is its choice where no entry is at
fault (notes/assumptions/4.md). -/
def Obligations.FramesAreAdmittedOrDiscarded : Prop :=
  ∀ (i : Instr) (s : State) (addr kind : Nat) (shaped : Bool), wellFormed i = true →
    requestHead i = some (addr, kind, shaped) →
    (s.port.receiver = .hunt → exec i s = .next s) ∧
    (s.port.receiver ≠ .hunt → addr ≠ 0 → (s.port.address = 0 ∨ addr ≠ s.port.address) →
      exec i s = .next { s with port := { s.port with receiver := .idle } }) ∧
    (s.port.receiver ≠ .hunt → (addr = 0 ∨ (s.port.address ≠ 0 ∧ addr = s.port.address)) →
      (s.port.reply.isSome = true →
        exec i s = .next { s with port := { s.port with
          receiver := .idle
          counters := { s.port.counters with overrun := min 65535 (s.port.counters.overrun + 1) } } }) ∧
      (s.port.reply = none → shaped = false →
        ∃ t, exec i s = .next t ∧ (kind ≠ Kind.place → s.refuses t kind addr .format) ∧
          (kind = Kind.place → ∃ p, s.refusesPlace t addr .format p ∧ 1 ≤ p ∧ p ≤ 4)))

/-- Each kind of broken frame counts one, up to 65535, and sends the receiver to HUNT, where no frame is taken and nothing is
counted until the line has been quiet; a frame that ends while a reply is pending is an overrun (R185, R186, R188, R191). A
pending reply goes out once: at the end of its delay its frame, with marker, own address, kind, length, result code, pending
count, fields and a check value over the bytes between, starts on the pair and the receiver goes to HUNT; once sent no reply
is pending (R183, R184, R189, R198). The check value starts at 0xFFFF and takes each byte bit by bit, the most significant
first: the register is shifted one place up, and 0x1021 goes in by exclusive-or where the bit shifted out is not the data bit
(R184). The fields of every reply and every notice stand in the order and the sizes of R198, each coded as R198 says, numbers
of two and three bytes with the high byte first. The model's own: a row of a frame changes nothing in HUNT
(notes/assumptions/8.md), as does an expiry or an end that cannot be there (notes/assumptions/2.md, 10.md) and QUIET_TIME
while the reply goes out (notes/assumptions/11.md). -/
def Obligations.FramesAreCountedAndAnswered : Prop :=
  ∀ s : State,
    (s.port.receiver = .hunt →
      exec .frameCheckError s = .next s ∧ exec .frameLengthError s = .next s ∧
      (∀ a, exec (.frameAbort a) s = .next s) ∧ exec .overrun s = .next s ∧
      (∀ b, exec (.foreignFrame b) s = .next s) ∧
      (s.port.sending = none → exec .quietTime s = .next { s with port := { s.port with receiver := .idle } }) ∧
      (s.port.sending.isSome = true → exec .quietTime s = .next s)) ∧
    (s.port.receiver ≠ .hunt →
      exec .frameCheckError s = .next { s with port := { s.port with
        receiver := .hunt
        counters := { s.port.counters with check := min 65535 (s.port.counters.check + 1) } } } ∧
      exec .frameLengthError s = .next { s with port := { s.port with
        receiver := .hunt
        counters := { s.port.counters with length := min 65535 (s.port.counters.length + 1) } } } ∧
      exec (.frameAbort true) s = .next { s with port := { s.port with
        receiver := .hunt
        counters := { s.port.counters with abort := min 65535 (s.port.counters.abort + 1) } } } ∧
      exec (.frameAbort false) s = .next { s with port := { s.port with receiver := .hunt } } ∧
      exec (.foreignFrame false) s = .next { s with port := { s.port with receiver := .idle } } ∧
      exec (.foreignFrame true) s = .next { s with port := { s.port with receiver := .hunt } } ∧
      exec .quietTime s = .next s ∧
      (s.port.reply = none → exec .overrun s = .next s) ∧
      (s.port.reply.isSome = true →
        exec .overrun s = .next { s with port := { s.port with
          receiver := .idle
          counters := { s.port.counters with overrun := min 65535 (s.port.counters.overrun + 1) } } })) ∧
    ((s.port.reply = none ∨ s.port.sending.isSome = true) → exec .replyDelayExpiry s = .next s) ∧
    (∀ r, s.port.reply = some r → s.port.sending = none →
      ∃ body fields : List Byte,
        exec .replyDelayExpiry s = .next { s with port := { s.port with
          receiver := .hunt
          sending := some (replyFrame s.port.address r) } } ∧
        replyFrame s.port.address r =
          [0xC3#8] ++ body ++ [BitVec.ofNat 8 ((crc16 body).toNat / 256), BitVec.ofNat 8 (crc16 body).toNat] ∧
        body =
          [BitVec.ofNat 8 (128 + s.port.address), BitVec.ofNat 8 r.kind, BitVec.ofNat 8 fields.length] ++ fields ∧
        fields = [BitVec.ofNat 8 r.result.code, BitVec.ofNat 8 r.count] ++ fieldBytes r.fields) ∧
    [Result.done, .accepted, .busy, .unknown, .full, .range, .state, .format, .noPlace, .inUse, .duplicate].map
      Result.code = List.range 11 ∧
    (∀ n, u8 n = [BitVec.ofNat 8 n] ∧ u16 n = [BitVec.ofNat 8 (n / 256), BitVec.ofNat 8 n] ∧
      u24 n = [BitVec.ofNat 8 (n / 65536), BitVec.ofNat 8 (n / 256), BitVec.ofNat 8 n]) ∧
    (∀ x : Text, textBytes x = u8 x.length ++ x.flatMap u8) ∧
    optMinuteBytes none = [255#8, 255#8] ∧ (∀ m, optMinuteBytes (some m) = u8 (m / 60) ++ u8 (m % 60)) ∧
    flag false = 0 ∧ flag true = 1 ∧ [InputId.a, .b].map inputCode = [0, 1] ∧
    [ScanOp.strike, .restore].map ScanOp.code = [0, 1] ∧
    (∀ m a, [ServiceState.onTime, .expected m a, .delayed, .cancelled].map ServiceState.code = [0, 1, 2, 3] ∧
      [ServiceState.onTime, .expected m a, .delayed, .cancelled].map ServiceState.expectedMinute =
        [none, some m, none, none]) ∧
    [StatusCode.cancelled, .delayed, .due, .expected, .onTime].map StatusCode.code = [0, 1, 2, 3, 4] ∧
    [PortionMask.both, .first, .second].map PortionMask.code = [0, 1, 2] ∧
    (∀ k, [Mark.calling, .strike k, .listed].map Mark.code = [0, k, 128]) ∧
    [Role.head, .calls, .follow, .notice, .blank].map Role.code = [0, 1, 2, 3, 4] ∧
    [PanelMode.unbound, .absent, .off, .waking, .live, .retiring, .faulted].map PanelMode.code = [0, 1, 2, 3, 4, 5, 6] ∧
    [Cause.none, .noAnswer, .overcurrent, .overtemp, .removed, .requested].map Cause.code = [0, 1, 2, 3, 4, 5] ∧
    (∀ m : Quad Bool, maskCode m < 16 ∧ ∀ f : FaceId, (maskCode m).testBit f.toNat = m.get f) ∧
    fieldBytes .none = [] ∧
    (∀ n, fieldBytes (.slot n) = u8 n ∧ fieldBytes (.strikeId n) = u8 n ∧ fieldBytes (.placeRefused n) = u8 n ∧
      fieldBytes (.placeCount n) = u16 n) ∧
    (∀ isOpen pending present active free,
      fieldBytes (.calls isOpen pending present active free) =
        u8 (flag isOpen) ++ u8 pending ++ u8 (flag present) ++ u8 active ++ u16 free) ∧
    (∀ x : ReadReply, fieldBytes (.read x) =
      u16 x.handle ++ u8 (x.sched / 60) ++ u8 (x.sched % 60) ++ u8 x.state.code ++
        optMinuteBytes x.state.expectedMinute ++ u8 (if x.rear = none then 1 else 2) ++ u16 x.front.dest ++
        u8 (x.front.coaches.getD 0) ++ u16 ((x.rear.map Portion.dest).getD 0) ++
        u8 ((x.rear.bind Portion.coaches).getD 0) ++ textBytes (x.reason.getD []) ++ u8 x.slot ++ u8 x.position ++
        u8 x.status.code ++ u8 (flag x.patternPresent) ++ u8 x.patternLength ++ u8 (flag x.loadOpen)) ∧
    (∀ (pending present : Bool) (length start : Nat) (es : List Entry),
      fieldBytes (.list pending present length start es) =
        u8 (flag pending) ++ u8 (flag present) ++ u8 length ++ u8 start ++ u8 es.length ++
          es.flatMap fun e => u8 e.key ++ u16 e.place ++ optMinuteBytes e.time ++ u8 e.mask.code ++ u8 e.mark.code) ∧
    (∀ count marks, fieldBytes (.places count marks) = u16 count ++ u16 marks) ∧
    (∀ x : FaceReply, fieldBytes (.face x) =
      u8 x.panelId ++ ([x.roles.q0, x.roles.q1, x.roles.q2, x.roles.q3].flatMap fun q => u8 q.code) ++ u8 x.speed ++
        u8 x.depth ++ u8 (flag x.callTimes) ++ u8 (flag x.autoWake) ++ u8 (flag x.geometry.isSome) ++
        u16 ((x.geometry.map Geometry.width).getD 0) ++ u8 ((x.geometry.map Geometry.lines).getD 0) ++
        u8 x.mode.code) ∧
    (∀ mode cause, fieldBytes (.panel mode cause) = u8 mode.code ++ u8 cause.code) ∧
    (∀ x : Timing, fieldBytes (.timing x) =
      u8 x.followDwell ++ u8 x.clearDown ++ u16 x.silenceLimit ++ u16 x.wakeTimeout ++ u16 x.rampStep ++ u16 x.passGap ++
        u8 x.loadIdle ++ u8 x.pageDwell) ∧
    fieldBytes (.notice none) = u8 0 ∧
    (∀ slot handle sched,
      fieldBytes (.notice (some (.serviceExpired slot handle sched))) =
        u8 1 ++ u8 slot ++ u16 handle ++ u8 (sched / 60) ++ u8 (sched % 60) ∧
      fieldBytes (.notice (some (.patternLost slot handle))) = u8 2 ++ u8 slot ++ u16 handle) ∧
    (∀ k op marks touched hit,
      fieldBytes (.notice (some (.scanDone k op marks touched hit))) =
        u8 3 ++ u8 k ++ u8 op.code ++ u16 marks ++ u8 touched ++ u8 (flag hit)) ∧
    (∀ f mode cause,
      fieldBytes (.notice (some (.faceState f mode cause))) = u8 4 ++ u8 f.toNat ++ u8 mode.code ++ u8 cause.code) ∧
    (∀ f level, fieldBytes (.notice (some (.levelReached f level))) = u8 5 ++ u8 f.toNat ++ u8 level) ∧
    fieldBytes (.notice (some (.feed false))) = u8 6 ++ u8 0 ∧ fieldBytes (.notice (some (.feed true))) = u8 6 ++ u8 1 ∧
    (∀ i mask,
      [ApproachEvent.raised, .ended .holdExpired, .ended .durationExpired, .ended .reconfigured].map
          (fun event => fieldBytes (.notice (some (.approach i event mask)))) =
        [(0, 0), (1, 1), (1, 2), (1, 3)].map fun (event, reason) =>
          u8 7 ++ u8 (inputCode i) ++ u8 event ++ u8 reason ++ u8 (maskCode mask)) ∧
    (∀ x : StatusReply, fieldBytes (.status x) =
      u8 (flag x.valid) ++ u8 x.hours ++ u8 x.minutes ++ u8 x.seconds ++ u24 x.pmc ++ u8 x.services ++ u16 x.freeCells ++
        u8 x.openLoads ++ u16 x.places ++ u8 x.strikes ++
        (match x.scan with
          | none => u8 0 ++ u8 0
          | some (op, k) => u8 (op.code + 1) ++ u8 k) ++
        u8 (flag x.feedLost) ++
        ([x.faces.q0, x.faces.q1, x.faces.q2, x.faces.q3].flatMap fun y =>
          u8 y.mode.code ++ u8 y.cause.code ++ u8 y.level ++ u8 (flag y.clipped)) ++
        u16 x.counters.check ++ u16 x.counters.length ++ u16 x.counters.abort ++ u16 x.counters.overrun) ∧
    (s.port.sending = none → exec .replySent s = .next s) ∧
    (s.port.sending.isSome = true →
      exec .replySent s = .next { s with port := { s.port with sending := none, reply := none } }) ∧
    crc16 [] = 0xFFFF#16 ∧ crc16 ((List.range 9).map fun k => BitVec.ofNat 8 (0x31 + k)) = 0x29B1#16 ∧
    ∀ (bytes : List Byte) (b : Byte),
      crc16 (bytes ++ [b]) =
        [7, 6, 5, 4, 3, 2, 1, 0].foldl
          (fun r i => BitVec.ofNat 16 (2 * r.toNat) ^^^ (if r.getLsbD 15 = b.getLsbD i then 0#16 else 0x1021#16))
          (crc16 bytes)

/-- Every well-formed request whose body reads as the fields of its row has a frame, and the frame of one that concerns the
part is received as that request: no field of any body is dropped (R184, R185, R198). -/
def Obligations.EncodedFramesAreReceived : Prop :=
  (∀ (i : Instr) (addr kind : Nat), wellFormed i = true → requestHead i = some (addr, kind, true) →
    ∃ bytes body, encodeFrame i = some bytes ∧ requestFrame i = some ⟨addr, kind, body⟩ ∧ body.length ≤ 240) ∧
  ∀ (i : Instr) (own addr : Nat) (bytes after : List Byte), wellFormed i = true → encodeFrame i = some bytes →
    (requestFrame i).map RequestFrame.addr = some addr → own < 32 → (addr = 0 ∨ (own ≠ 0 ∧ addr = own)) →
    receiveFrame own (bytes ++ after) = some (i, after)

/-! ### Invariants that every step keeps -/

/-- The service table stays in order and the cell pool stays in balance (R4, R28, R29, R31). The display order holds each
occupied slot once, by effective minute, then scheduled absolute minute, then handle (R5, R6). -/
def Obligations.EveryStepKeepsTheTable : Prop :=
  (∀ s t : State, s.TableInv → s.PoolInv → step s = .next t → t.TableInv ∧ t.PoolInv) ∧
  (∀ v : Service,
    (∀ m abs, v.state = .expected m abs → v.effAbs = abs) ∧
    (v.state = .onTime ∨ v.state = .delayed ∨ v.state = .cancelled → v.effAbs = v.schedAbs)) ∧
  ∀ vs : List Service, ∃ sorted : List Service,
    displayOrder vs = sorted.map Service.slot ∧ sorted.Perm vs ∧
    sorted.Pairwise fun v w =>
      v.effAbs < w.effAbs ∨ (v.effAbs = w.effAbs ∧
        (v.schedAbs < w.schedAbs ∨ (v.schedAbs = w.schedAbs ∧ v.handle ≤ w.handle)))

/-- Reference counts stay those of the references held, every place referred to stays in the dictionary, and at most 400
places, no two with one code, are in it (R47 to R49). -/
def Obligations.EveryStepKeepsTheDictionary : Prop :=
  ∀ s t : State, s.TableInv → s.PlacesInv → step s = .next t → t.PlacesInv

/-- An entry is struck only by a listed strike whose key matches its place's code at that moment (R62). -/
def Obligations.EveryStepKeepsStrikeMarks : Prop :=
  ∀ s t : State, s.TableInv → s.PlacesInv → s.StrikesInv → step s = .next t → t.StrikesInv

/-- The supervisor's fields stay those of the panel state, and no two faces hold one panel ID (R118, R165, R182). -/
def Obligations.EveryStepKeepsThePanels : Prop :=
  ∀ s t : State, s.PanelsInv → step s = .next t → t.PanelsInv

/-- The face that holds the engine is granted and LIVE, no other is, and the render draws into the buffer that is not shown;
a face outside LIVE is shown nothing (R125, R132, R134, R137, R147). -/
def Obligations.EveryStepKeepsTheEngine : Prop :=
  ∀ s t : State, s.PanelsInv → s.FacesInv → s.EngineInv → step s = .next t → t.FacesInv ∧ t.EngineInv

/-- Levels stay in 0 to 63, and a LIVE face off its effective target has its ramp running (R176, R177). -/
def Obligations.EveryStepKeepsTheLevels : Prop :=
  ∀ s t : State, s.PanelsInv → s.LevelsInv → step s = .next t → t.LevelsInv

/-- The notice queue holds one notice of a kind and subject, so never more than 60 (R193); override lists stay in their order
(R152); clock, settings and counters stay in their ranges (R9, R191, R196). No command but a reset and COLLECT takes a notice
out of the queue or moves one: the kinds and subjects held stay in their order, and new ones come after them (R193). -/
def Obligations.EveryStepKeepsListsAndRanges : Prop :=
  (∀ s t : State, step s = .next t →
    (s.QueueInv → t.QueueInv ∧ t.notices.length ≤ 60) ∧ (s.OverridesInv → t.OverridesInv) ∧
      (s.RangesInv → t.RangesInv)) ∧
  ∀ (i : Instr) (s t : State), takesNotices i = false → exec i s = .next t →
    s.notices.map Notice.subject <+: t.notices.map Notice.subject
end

