-- ==== Sys2Proof/Laws/State.lean ====
section
/-! SUPPORT. One lemma for each field after each primitive update of the state, true by `rfl`, and the faces after an update
of one or of all. -/

namespace Sys2Proof.Machine

open Sys2Proof

section Quads

variable {α β : Type}

@[simp] theorem Quad.get_set_same (q : Quad α) (i : Four) (a : α) : (q.set i a).get i = a := by cases i <;> rfl

theorem Quad.get_set_other (q : Quad α) {i j : Four} (a : α) (h : j ≠ i) : (q.set i a).get j = q.get j := by
  cases i <;> cases j <;> first | rfl | exact absurd rfl h

theorem Quad.get_set (q : Quad α) (i j : Four) (a : α) : (q.set i a).get j = if j = i then a else q.get j := by
  cases i <;> cases j <;> rfl

@[simp] theorem Quad.get_const (a : α) (i : Four) : (Quad.const a).get i = a := by cases i <;> rfl

@[simp] theorem Quad.get_map (g : α → β) (q : Quad α) (i : Four) : (q.map g).get i = g (q.get i) := by cases i <;> rfl

@[simp] theorem Quad.get_mapIdx (g : Four → α → β) (q : Quad α) (i : Four) : (q.mapIdx g).get i = g i (q.get i) := by
  cases i <;> rfl

@[simp] theorem Quad.get_ofFn (g : Four → α) (i : Four) : (Quad.ofFn g).get i = g i := by cases i <;> rfl

theorem Quad.ext_get {p q : Quad α} (h : ∀ i, p.get i = q.get i) : p = q := by
  cases p; cases q
  have h₀ := h .n0; have h₁ := h .n1; have h₂ := h .n2; have h₃ := h .n3
  simp_all [Quad.get]

@[simp] theorem Four.mem_all (i : Four) : i ∈ Four.all := by cases i <;> decide

end Quads

variable (s : State)

theorem State.face_eq (f : FaceId) : s.face f = s.faces.get f := rfl

@[simp] theorem State.modFace_face_same (f : FaceId) (g : Face → Face) : (s.modFace f g).face f = g (s.face f) :=
  Quad.get_set_same _ _ _

theorem State.modFace_face_other {f h : FaceId} (g : Face → Face) (n : h ≠ f) : (s.modFace f g).face h = s.face h :=
  Quad.get_set_other _ _ n

theorem State.modFace_face (f h : FaceId) (g : Face → Face) :
    (s.modFace f g).face h = if h = f then g (s.face f) else s.face h :=
  Quad.get_set _ _ _ _

@[simp] theorem State.mapFaces_face (g : FaceId → Face → Face) (f : FaceId) : (s.mapFaces g).face f = g f (s.face f) :=
  Quad.get_mapIdx _ _ _

@[simp] theorem State.modFace_clock (f : FaceId) (g : Face → Face) : (s.modFace f g).clock = s.clock := rfl
@[simp] theorem State.modFace_services (f : FaceId) (g : Face → Face) : (s.modFace f g).services = s.services := rfl
@[simp] theorem State.modFace_order (f : FaceId) (g : Face → Face) : (s.modFace f g).order = s.order := rfl
@[simp] theorem State.modFace_freeCells (f : FaceId) (g : Face → Face) : (s.modFace f g).freeCells = s.freeCells := rfl
@[simp] theorem State.modFace_places (f : FaceId) (g : Face → Face) : (s.modFace f g).places = s.places := rfl
@[simp] theorem State.modFace_glyphs (f : FaceId) (g : Face → Face) : (s.modFace f g).glyphs = s.glyphs := rfl
@[simp] theorem State.modFace_strikes (f : FaceId) (g : Face → Face) : (s.modFace f g).strikes = s.strikes := rfl
@[simp] theorem State.modFace_scan (f : FaceId) (g : Face → Face) : (s.modFace f g).scan = s.scan := rfl
@[simp] theorem State.modFace_faces (f : FaceId) (g : Face → Face) :
    (s.modFace f g).faces =
      s.faces.set f (g (s.faces.get f)) := rfl
@[simp] theorem State.modFace_engine (f : FaceId) (g : Face → Face) : (s.modFace f g).engine = s.engine := rfl
@[simp] theorem State.modFace_link (f : FaceId) (g : Face → Face) : (s.modFace f g).link = s.link := rfl
@[simp] theorem State.modFace_texts (f : FaceId) (g : Face → Face) : (s.modFace f g).texts = s.texts := rfl
@[simp] theorem State.modFace_nextStamp (f : FaceId) (g : Face → Face) : (s.modFace f g).nextStamp = s.nextStamp := rfl
@[simp] theorem State.modFace_approach (f : FaceId) (g : Face → Face) : (s.modFace f g).approach = s.approach := rfl
@[simp] theorem State.modFace_curve (f : FaceId) (g : Face → Face) : (s.modFace f g).curve = s.curve := rfl
@[simp] theorem State.modFace_timing (f : FaceId) (g : Face → Face) : (s.modFace f g).timing = s.timing := rfl
@[simp] theorem State.modFace_port (f : FaceId) (g : Face → Face) : (s.modFace f g).port = s.port := rfl
@[simp] theorem State.modFace_notices (f : FaceId) (g : Face → Face) : (s.modFace f g).notices = s.notices := rfl
@[simp] theorem State.modFace_draws (f : FaceId) (g : Face → Face) : (s.modFace f g).draws = s.draws := rfl
@[simp] theorem State.modFace_pending (f : FaceId) (g : Face → Face) : (s.modFace f g).pending = s.pending := rfl

@[simp] theorem State.mapFaces_clock (g : FaceId → Face → Face) : (s.mapFaces g).clock = s.clock := rfl
@[simp] theorem State.mapFaces_services (g : FaceId → Face → Face) : (s.mapFaces g).services = s.services := rfl
@[simp] theorem State.mapFaces_order (g : FaceId → Face → Face) : (s.mapFaces g).order = s.order := rfl
@[simp] theorem State.mapFaces_freeCells (g : FaceId → Face → Face) : (s.mapFaces g).freeCells = s.freeCells := rfl
@[simp] theorem State.mapFaces_places (g : FaceId → Face → Face) : (s.mapFaces g).places = s.places := rfl
@[simp] theorem State.mapFaces_glyphs (g : FaceId → Face → Face) : (s.mapFaces g).glyphs = s.glyphs := rfl
@[simp] theorem State.mapFaces_strikes (g : FaceId → Face → Face) : (s.mapFaces g).strikes = s.strikes := rfl
@[simp] theorem State.mapFaces_scan (g : FaceId → Face → Face) : (s.mapFaces g).scan = s.scan := rfl
@[simp] theorem State.mapFaces_faces (g : FaceId → Face → Face) : (s.mapFaces g).faces = s.faces.mapIdx g := rfl
@[simp] theorem State.mapFaces_engine (g : FaceId → Face → Face) : (s.mapFaces g).engine = s.engine := rfl
@[simp] theorem State.mapFaces_link (g : FaceId → Face → Face) : (s.mapFaces g).link = s.link := rfl
@[simp] theorem State.mapFaces_texts (g : FaceId → Face → Face) : (s.mapFaces g).texts = s.texts := rfl
@[simp] theorem State.mapFaces_nextStamp (g : FaceId → Face → Face) : (s.mapFaces g).nextStamp = s.nextStamp := rfl
@[simp] theorem State.mapFaces_approach (g : FaceId → Face → Face) : (s.mapFaces g).approach = s.approach := rfl
@[simp] theorem State.mapFaces_curve (g : FaceId → Face → Face) : (s.mapFaces g).curve = s.curve := rfl
@[simp] theorem State.mapFaces_timing (g : FaceId → Face → Face) : (s.mapFaces g).timing = s.timing := rfl
@[simp] theorem State.mapFaces_port (g : FaceId → Face → Face) : (s.mapFaces g).port = s.port := rfl
@[simp] theorem State.mapFaces_notices (g : FaceId → Face → Face) : (s.mapFaces g).notices = s.notices := rfl
@[simp] theorem State.mapFaces_draws (g : FaceId → Face → Face) : (s.mapFaces g).draws = s.draws := rfl
@[simp] theorem State.mapFaces_pending (g : FaceId → Face → Face) : (s.mapFaces g).pending = s.pending := rfl

@[simp] theorem State.post_clock (n : Notice) : (s.post n).clock = s.clock := rfl
@[simp] theorem State.post_services (n : Notice) : (s.post n).services = s.services := rfl
@[simp] theorem State.post_order (n : Notice) : (s.post n).order = s.order := rfl
@[simp] theorem State.post_freeCells (n : Notice) : (s.post n).freeCells = s.freeCells := rfl
@[simp] theorem State.post_places (n : Notice) : (s.post n).places = s.places := rfl
@[simp] theorem State.post_glyphs (n : Notice) : (s.post n).glyphs = s.glyphs := rfl
@[simp] theorem State.post_strikes (n : Notice) : (s.post n).strikes = s.strikes := rfl
@[simp] theorem State.post_scan (n : Notice) : (s.post n).scan = s.scan := rfl
@[simp] theorem State.post_faces (n : Notice) : (s.post n).faces = s.faces := rfl
@[simp] theorem State.post_engine (n : Notice) : (s.post n).engine = s.engine := rfl
@[simp] theorem State.post_link (n : Notice) : (s.post n).link = s.link := rfl
@[simp] theorem State.post_texts (n : Notice) : (s.post n).texts = s.texts := rfl
@[simp] theorem State.post_nextStamp (n : Notice) : (s.post n).nextStamp = s.nextStamp := rfl
@[simp] theorem State.post_approach (n : Notice) : (s.post n).approach = s.approach := rfl
@[simp] theorem State.post_curve (n : Notice) : (s.post n).curve = s.curve := rfl
@[simp] theorem State.post_timing (n : Notice) : (s.post n).timing = s.timing := rfl
@[simp] theorem State.post_port (n : Notice) : (s.post n).port = s.port := rfl
@[simp] theorem State.post_notices (n : Notice) : (s.post n).notices = postNotice n s.notices := rfl
@[simp] theorem State.post_draws (n : Notice) : (s.post n).draws = s.draws := rfl
@[simp] theorem State.post_pending (n : Notice) : (s.post n).pending = s.pending := rfl
@[simp] theorem State.post_face (n : Notice) (f : FaceId) : (s.post n).face f = s.face f := rfl

@[simp] theorem State.modService_clock (k : Nat) (g : Service → Service) : (s.modService k g).clock = s.clock := rfl
@[simp] theorem State.modService_order (k : Nat) (g : Service → Service) : (s.modService k g).order = s.order := rfl
@[simp] theorem State.modService_freeCells (k : Nat) (g : Service → Service) : (s.modService k g).freeCells = s.freeCells := rfl
@[simp] theorem State.modService_places (k : Nat) (g : Service → Service) : (s.modService k g).places = s.places := rfl
@[simp] theorem State.modService_glyphs (k : Nat) (g : Service → Service) : (s.modService k g).glyphs = s.glyphs := rfl
@[simp] theorem State.modService_strikes (k : Nat) (g : Service → Service) : (s.modService k g).strikes = s.strikes := rfl
@[simp] theorem State.modService_scan (k : Nat) (g : Service → Service) : (s.modService k g).scan = s.scan := rfl
@[simp] theorem State.modService_faces (k : Nat) (g : Service → Service) : (s.modService k g).faces = s.faces := rfl
@[simp] theorem State.modService_engine (k : Nat) (g : Service → Service) : (s.modService k g).engine = s.engine := rfl
@[simp] theorem State.modService_link (k : Nat) (g : Service → Service) : (s.modService k g).link = s.link := rfl
@[simp] theorem State.modService_texts (k : Nat) (g : Service → Service) : (s.modService k g).texts = s.texts := rfl
@[simp] theorem State.modService_nextStamp (k : Nat) (g : Service → Service) : (s.modService k g).nextStamp = s.nextStamp := rfl
@[simp] theorem State.modService_approach (k : Nat) (g : Service → Service) : (s.modService k g).approach = s.approach := rfl
@[simp] theorem State.modService_curve (k : Nat) (g : Service → Service) : (s.modService k g).curve = s.curve := rfl
@[simp] theorem State.modService_timing (k : Nat) (g : Service → Service) : (s.modService k g).timing = s.timing := rfl
@[simp] theorem State.modService_port (k : Nat) (g : Service → Service) : (s.modService k g).port = s.port := rfl
@[simp] theorem State.modService_notices (k : Nat) (g : Service → Service) : (s.modService k g).notices = s.notices := rfl
@[simp] theorem State.modService_draws (k : Nat) (g : Service → Service) : (s.modService k g).draws = s.draws := rfl
@[simp] theorem State.modService_pending (k : Nat) (g : Service → Service) : (s.modService k g).pending = s.pending := rfl
@[simp] theorem State.modService_face (k : Nat) (g : Service → Service) (f : FaceId) : (s.modService k g).face f = s.face f := rfl

@[simp] theorem State.gainRefs_clock (ids : List Nat) : (s.gainRefs ids).clock = s.clock := rfl
@[simp] theorem State.gainRefs_services (ids : List Nat) : (s.gainRefs ids).services = s.services := rfl
@[simp] theorem State.gainRefs_order (ids : List Nat) : (s.gainRefs ids).order = s.order := rfl
@[simp] theorem State.gainRefs_freeCells (ids : List Nat) : (s.gainRefs ids).freeCells = s.freeCells := rfl
@[simp] theorem State.gainRefs_glyphs (ids : List Nat) : (s.gainRefs ids).glyphs = s.glyphs := rfl
@[simp] theorem State.gainRefs_strikes (ids : List Nat) : (s.gainRefs ids).strikes = s.strikes := rfl
@[simp] theorem State.gainRefs_scan (ids : List Nat) : (s.gainRefs ids).scan = s.scan := rfl
@[simp] theorem State.gainRefs_faces (ids : List Nat) : (s.gainRefs ids).faces = s.faces := rfl
@[simp] theorem State.gainRefs_engine (ids : List Nat) : (s.gainRefs ids).engine = s.engine := rfl
@[simp] theorem State.gainRefs_link (ids : List Nat) : (s.gainRefs ids).link = s.link := rfl
@[simp] theorem State.gainRefs_texts (ids : List Nat) : (s.gainRefs ids).texts = s.texts := rfl
@[simp] theorem State.gainRefs_nextStamp (ids : List Nat) : (s.gainRefs ids).nextStamp = s.nextStamp := rfl
@[simp] theorem State.gainRefs_approach (ids : List Nat) : (s.gainRefs ids).approach = s.approach := rfl
@[simp] theorem State.gainRefs_curve (ids : List Nat) : (s.gainRefs ids).curve = s.curve := rfl
@[simp] theorem State.gainRefs_timing (ids : List Nat) : (s.gainRefs ids).timing = s.timing := rfl
@[simp] theorem State.gainRefs_port (ids : List Nat) : (s.gainRefs ids).port = s.port := rfl
@[simp] theorem State.gainRefs_notices (ids : List Nat) : (s.gainRefs ids).notices = s.notices := rfl
@[simp] theorem State.gainRefs_draws (ids : List Nat) : (s.gainRefs ids).draws = s.draws := rfl
@[simp] theorem State.gainRefs_pending (ids : List Nat) : (s.gainRefs ids).pending = s.pending := rfl
@[simp] theorem State.gainRefs_face (ids : List Nat) (f : FaceId) : (s.gainRefs ids).face f = s.face f := rfl

@[simp] theorem State.loseRefs_clock (ids : List Nat) : (s.loseRefs ids).clock = s.clock := rfl
@[simp] theorem State.loseRefs_services (ids : List Nat) : (s.loseRefs ids).services = s.services := rfl
@[simp] theorem State.loseRefs_order (ids : List Nat) : (s.loseRefs ids).order = s.order := rfl
@[simp] theorem State.loseRefs_freeCells (ids : List Nat) : (s.loseRefs ids).freeCells = s.freeCells := rfl
@[simp] theorem State.loseRefs_glyphs (ids : List Nat) : (s.loseRefs ids).glyphs = s.glyphs := rfl
@[simp] theorem State.loseRefs_strikes (ids : List Nat) : (s.loseRefs ids).strikes = s.strikes := rfl
@[simp] theorem State.loseRefs_scan (ids : List Nat) : (s.loseRefs ids).scan = s.scan := rfl
@[simp] theorem State.loseRefs_faces (ids : List Nat) : (s.loseRefs ids).faces = s.faces := rfl
@[simp] theorem State.loseRefs_engine (ids : List Nat) : (s.loseRefs ids).engine = s.engine := rfl
@[simp] theorem State.loseRefs_link (ids : List Nat) : (s.loseRefs ids).link = s.link := rfl
@[simp] theorem State.loseRefs_texts (ids : List Nat) : (s.loseRefs ids).texts = s.texts := rfl
@[simp] theorem State.loseRefs_nextStamp (ids : List Nat) : (s.loseRefs ids).nextStamp = s.nextStamp := rfl
@[simp] theorem State.loseRefs_approach (ids : List Nat) : (s.loseRefs ids).approach = s.approach := rfl
@[simp] theorem State.loseRefs_curve (ids : List Nat) : (s.loseRefs ids).curve = s.curve := rfl
@[simp] theorem State.loseRefs_timing (ids : List Nat) : (s.loseRefs ids).timing = s.timing := rfl
@[simp] theorem State.loseRefs_port (ids : List Nat) : (s.loseRefs ids).port = s.port := rfl
@[simp] theorem State.loseRefs_notices (ids : List Nat) : (s.loseRefs ids).notices = s.notices := rfl
@[simp] theorem State.loseRefs_draws (ids : List Nat) : (s.loseRefs ids).draws = s.draws := rfl
@[simp] theorem State.loseRefs_pending (ids : List Nat) : (s.loseRefs ids).pending = s.pending := rfl
@[simp] theorem State.loseRefs_face (ids : List Nat) (f : FaceId) : (s.loseRefs ids).face f = s.face f := rfl

@[simp] theorem State.returnCells_clock (n : Nat) : (s.returnCells n).clock = s.clock := rfl
@[simp] theorem State.returnCells_services (n : Nat) : (s.returnCells n).services = s.services := rfl
@[simp] theorem State.returnCells_order (n : Nat) : (s.returnCells n).order = s.order := rfl
@[simp] theorem State.returnCells_freeCells (n : Nat) : (s.returnCells n).freeCells = s.freeCells + n := rfl
@[simp] theorem State.returnCells_places (n : Nat) : (s.returnCells n).places = s.places := rfl
@[simp] theorem State.returnCells_glyphs (n : Nat) : (s.returnCells n).glyphs = s.glyphs := rfl
@[simp] theorem State.returnCells_strikes (n : Nat) : (s.returnCells n).strikes = s.strikes := rfl
@[simp] theorem State.returnCells_scan (n : Nat) : (s.returnCells n).scan = s.scan := rfl
@[simp] theorem State.returnCells_faces (n : Nat) : (s.returnCells n).faces = s.faces := rfl
@[simp] theorem State.returnCells_engine (n : Nat) : (s.returnCells n).engine = s.engine := rfl
@[simp] theorem State.returnCells_link (n : Nat) : (s.returnCells n).link = s.link := rfl
@[simp] theorem State.returnCells_texts (n : Nat) : (s.returnCells n).texts = s.texts := rfl
@[simp] theorem State.returnCells_nextStamp (n : Nat) : (s.returnCells n).nextStamp = s.nextStamp := rfl
@[simp] theorem State.returnCells_approach (n : Nat) : (s.returnCells n).approach = s.approach := rfl
@[simp] theorem State.returnCells_curve (n : Nat) : (s.returnCells n).curve = s.curve := rfl
@[simp] theorem State.returnCells_timing (n : Nat) : (s.returnCells n).timing = s.timing := rfl
@[simp] theorem State.returnCells_port (n : Nat) : (s.returnCells n).port = s.port := rfl
@[simp] theorem State.returnCells_notices (n : Nat) : (s.returnCells n).notices = s.notices := rfl
@[simp] theorem State.returnCells_draws (n : Nat) : (s.returnCells n).draws = s.draws := rfl
@[simp] theorem State.returnCells_pending (n : Nat) : (s.returnCells n).pending = s.pending := rfl
@[simp] theorem State.returnCells_face (n : Nat) (f : FaceId) : (s.returnCells n).face f = s.face f := rfl

@[simp] theorem State.takeCells_clock (n : Nat) : (s.takeCells n).clock = s.clock := rfl
@[simp] theorem State.takeCells_services (n : Nat) : (s.takeCells n).services = s.services := rfl
@[simp] theorem State.takeCells_order (n : Nat) : (s.takeCells n).order = s.order := rfl
@[simp] theorem State.takeCells_freeCells (n : Nat) : (s.takeCells n).freeCells = s.freeCells - n := rfl
@[simp] theorem State.takeCells_places (n : Nat) : (s.takeCells n).places = s.places := rfl
@[simp] theorem State.takeCells_glyphs (n : Nat) : (s.takeCells n).glyphs = s.glyphs := rfl
@[simp] theorem State.takeCells_strikes (n : Nat) : (s.takeCells n).strikes = s.strikes := rfl
@[simp] theorem State.takeCells_scan (n : Nat) : (s.takeCells n).scan = s.scan := rfl
@[simp] theorem State.takeCells_faces (n : Nat) : (s.takeCells n).faces = s.faces := rfl
@[simp] theorem State.takeCells_engine (n : Nat) : (s.takeCells n).engine = s.engine := rfl
@[simp] theorem State.takeCells_link (n : Nat) : (s.takeCells n).link = s.link := rfl
@[simp] theorem State.takeCells_texts (n : Nat) : (s.takeCells n).texts = s.texts := rfl
@[simp] theorem State.takeCells_nextStamp (n : Nat) : (s.takeCells n).nextStamp = s.nextStamp := rfl
@[simp] theorem State.takeCells_approach (n : Nat) : (s.takeCells n).approach = s.approach := rfl
@[simp] theorem State.takeCells_curve (n : Nat) : (s.takeCells n).curve = s.curve := rfl
@[simp] theorem State.takeCells_timing (n : Nat) : (s.takeCells n).timing = s.timing := rfl
@[simp] theorem State.takeCells_port (n : Nat) : (s.takeCells n).port = s.port := rfl
@[simp] theorem State.takeCells_notices (n : Nat) : (s.takeCells n).notices = s.notices := rfl
@[simp] theorem State.takeCells_draws (n : Nat) : (s.takeCells n).draws = s.draws := rfl
@[simp] theorem State.takeCells_pending (n : Nat) : (s.takeCells n).pending = s.pending := rfl
@[simp] theorem State.takeCells_face (n : Nat) (f : FaceId) : (s.takeCells n).face f = s.face f := rfl

@[simp] theorem State.reorder_clock : (s.reorder).clock = s.clock := rfl
@[simp] theorem State.reorder_services : (s.reorder).services = s.services := rfl
@[simp] theorem State.reorder_order : (s.reorder).order = displayOrder s.services := rfl
@[simp] theorem State.reorder_freeCells : (s.reorder).freeCells = s.freeCells := rfl
@[simp] theorem State.reorder_places : (s.reorder).places = s.places := rfl
@[simp] theorem State.reorder_glyphs : (s.reorder).glyphs = s.glyphs := rfl
@[simp] theorem State.reorder_strikes : (s.reorder).strikes = s.strikes := rfl
@[simp] theorem State.reorder_scan : (s.reorder).scan = s.scan := rfl
@[simp] theorem State.reorder_faces : (s.reorder).faces = s.faces := rfl
@[simp] theorem State.reorder_engine : (s.reorder).engine = s.engine := rfl
@[simp] theorem State.reorder_link : (s.reorder).link = s.link := rfl
@[simp] theorem State.reorder_texts : (s.reorder).texts = s.texts := rfl
@[simp] theorem State.reorder_nextStamp : (s.reorder).nextStamp = s.nextStamp := rfl
@[simp] theorem State.reorder_approach : (s.reorder).approach = s.approach := rfl
@[simp] theorem State.reorder_curve : (s.reorder).curve = s.curve := rfl
@[simp] theorem State.reorder_timing : (s.reorder).timing = s.timing := rfl
@[simp] theorem State.reorder_port : (s.reorder).port = s.port := rfl
@[simp] theorem State.reorder_notices : (s.reorder).notices = s.notices := rfl
@[simp] theorem State.reorder_draws : (s.reorder).draws = s.draws := rfl
@[simp] theorem State.reorder_pending : (s.reorder).pending = s.pending := rfl
@[simp] theorem State.reorder_face (f : FaceId) : (s.reorder).face f = s.face f := rfl

@[simp] theorem State.setCounters_clock (c : Counters) : (s.setCounters c).clock = s.clock := rfl
@[simp] theorem State.setCounters_services (c : Counters) : (s.setCounters c).services = s.services := rfl
@[simp] theorem State.setCounters_order (c : Counters) : (s.setCounters c).order = s.order := rfl
@[simp] theorem State.setCounters_freeCells (c : Counters) : (s.setCounters c).freeCells = s.freeCells := rfl
@[simp] theorem State.setCounters_places (c : Counters) : (s.setCounters c).places = s.places := rfl
@[simp] theorem State.setCounters_glyphs (c : Counters) : (s.setCounters c).glyphs = s.glyphs := rfl
@[simp] theorem State.setCounters_strikes (c : Counters) : (s.setCounters c).strikes = s.strikes := rfl
@[simp] theorem State.setCounters_scan (c : Counters) : (s.setCounters c).scan = s.scan := rfl
@[simp] theorem State.setCounters_faces (c : Counters) : (s.setCounters c).faces = s.faces := rfl
@[simp] theorem State.setCounters_engine (c : Counters) : (s.setCounters c).engine = s.engine := rfl
@[simp] theorem State.setCounters_link (c : Counters) : (s.setCounters c).link = s.link := rfl
@[simp] theorem State.setCounters_texts (c : Counters) : (s.setCounters c).texts = s.texts := rfl
@[simp] theorem State.setCounters_nextStamp (c : Counters) : (s.setCounters c).nextStamp = s.nextStamp := rfl
@[simp] theorem State.setCounters_approach (c : Counters) : (s.setCounters c).approach = s.approach := rfl
@[simp] theorem State.setCounters_curve (c : Counters) : (s.setCounters c).curve = s.curve := rfl
@[simp] theorem State.setCounters_timing (c : Counters) : (s.setCounters c).timing = s.timing := rfl
@[simp] theorem State.setCounters_port (c : Counters) : (s.setCounters c).port = { s.port with counters := c } := rfl
@[simp] theorem State.setCounters_notices (c : Counters) : (s.setCounters c).notices = s.notices := rfl
@[simp] theorem State.setCounters_draws (c : Counters) : (s.setCounters c).draws = s.draws := rfl
@[simp] theorem State.setCounters_pending (c : Counters) : (s.setCounters c).pending = s.pending := rfl
@[simp] theorem State.setCounters_face (c : Counters) (f : FaceId) : (s.setCounters c).face f = s.face f := rfl

@[simp] theorem State.setReceiver_clock (r : Receiver) : (s.setReceiver r).clock = s.clock := rfl
@[simp] theorem State.setReceiver_services (r : Receiver) : (s.setReceiver r).services = s.services := rfl
@[simp] theorem State.setReceiver_order (r : Receiver) : (s.setReceiver r).order = s.order := rfl
@[simp] theorem State.setReceiver_freeCells (r : Receiver) : (s.setReceiver r).freeCells = s.freeCells := rfl
@[simp] theorem State.setReceiver_places (r : Receiver) : (s.setReceiver r).places = s.places := rfl
@[simp] theorem State.setReceiver_glyphs (r : Receiver) : (s.setReceiver r).glyphs = s.glyphs := rfl
@[simp] theorem State.setReceiver_strikes (r : Receiver) : (s.setReceiver r).strikes = s.strikes := rfl
@[simp] theorem State.setReceiver_scan (r : Receiver) : (s.setReceiver r).scan = s.scan := rfl
@[simp] theorem State.setReceiver_faces (r : Receiver) : (s.setReceiver r).faces = s.faces := rfl
@[simp] theorem State.setReceiver_engine (r : Receiver) : (s.setReceiver r).engine = s.engine := rfl
@[simp] theorem State.setReceiver_link (r : Receiver) : (s.setReceiver r).link = s.link := rfl
@[simp] theorem State.setReceiver_texts (r : Receiver) : (s.setReceiver r).texts = s.texts := rfl
@[simp] theorem State.setReceiver_nextStamp (r : Receiver) : (s.setReceiver r).nextStamp = s.nextStamp := rfl
@[simp] theorem State.setReceiver_approach (r : Receiver) : (s.setReceiver r).approach = s.approach := rfl
@[simp] theorem State.setReceiver_curve (r : Receiver) : (s.setReceiver r).curve = s.curve := rfl
@[simp] theorem State.setReceiver_timing (r : Receiver) : (s.setReceiver r).timing = s.timing := rfl
@[simp] theorem State.setReceiver_port (r : Receiver) : (s.setReceiver r).port = { s.port with receiver := r } := rfl
@[simp] theorem State.setReceiver_notices (r : Receiver) : (s.setReceiver r).notices = s.notices := rfl
@[simp] theorem State.setReceiver_draws (r : Receiver) : (s.setReceiver r).draws = s.draws := rfl
@[simp] theorem State.setReceiver_pending (r : Receiver) : (s.setReceiver r).pending = s.pending := rfl
@[simp] theorem State.setReceiver_face (r : Receiver) (f : FaceId) : (s.setReceiver r).face f = s.face f := rfl

@[simp] theorem State.setSending_clock (b : Option (List Byte)) : (s.setSending b).clock = s.clock := rfl
@[simp] theorem State.setSending_services (b : Option (List Byte)) : (s.setSending b).services = s.services := rfl
@[simp] theorem State.setSending_order (b : Option (List Byte)) : (s.setSending b).order = s.order := rfl
@[simp] theorem State.setSending_freeCells (b : Option (List Byte)) : (s.setSending b).freeCells = s.freeCells := rfl
@[simp] theorem State.setSending_places (b : Option (List Byte)) : (s.setSending b).places = s.places := rfl
@[simp] theorem State.setSending_glyphs (b : Option (List Byte)) : (s.setSending b).glyphs = s.glyphs := rfl
@[simp] theorem State.setSending_strikes (b : Option (List Byte)) : (s.setSending b).strikes = s.strikes := rfl
@[simp] theorem State.setSending_scan (b : Option (List Byte)) : (s.setSending b).scan = s.scan := rfl
@[simp] theorem State.setSending_faces (b : Option (List Byte)) : (s.setSending b).faces = s.faces := rfl
@[simp] theorem State.setSending_engine (b : Option (List Byte)) : (s.setSending b).engine = s.engine := rfl
@[simp] theorem State.setSending_link (b : Option (List Byte)) : (s.setSending b).link = s.link := rfl
@[simp] theorem State.setSending_texts (b : Option (List Byte)) : (s.setSending b).texts = s.texts := rfl
@[simp] theorem State.setSending_nextStamp (b : Option (List Byte)) : (s.setSending b).nextStamp = s.nextStamp := rfl
@[simp] theorem State.setSending_approach (b : Option (List Byte)) : (s.setSending b).approach = s.approach := rfl
@[simp] theorem State.setSending_curve (b : Option (List Byte)) : (s.setSending b).curve = s.curve := rfl
@[simp] theorem State.setSending_timing (b : Option (List Byte)) : (s.setSending b).timing = s.timing := rfl
@[simp] theorem State.setSending_port (b : Option (List Byte)) :
    (s.setSending b).port =
      { s.port with sending := b } := rfl
@[simp] theorem State.setSending_notices (b : Option (List Byte)) : (s.setSending b).notices = s.notices := rfl
@[simp] theorem State.setSending_draws (b : Option (List Byte)) : (s.setSending b).draws = s.draws := rfl
@[simp] theorem State.setSending_pending (b : Option (List Byte)) : (s.setSending b).pending = s.pending := rfl
@[simp] theorem State.setSending_face (b : Option (List Byte)) (f : FaceId) : (s.setSending b).face f = s.face f := rfl

@[simp] theorem State.restartSilence_clock : (s.restartSilence).clock = s.clock := rfl
@[simp] theorem State.restartSilence_services : (s.restartSilence).services = s.services := rfl
@[simp] theorem State.restartSilence_order : (s.restartSilence).order = s.order := rfl
@[simp] theorem State.restartSilence_freeCells : (s.restartSilence).freeCells = s.freeCells := rfl
@[simp] theorem State.restartSilence_places : (s.restartSilence).places = s.places := rfl
@[simp] theorem State.restartSilence_glyphs : (s.restartSilence).glyphs = s.glyphs := rfl
@[simp] theorem State.restartSilence_strikes : (s.restartSilence).strikes = s.strikes := rfl
@[simp] theorem State.restartSilence_scan : (s.restartSilence).scan = s.scan := rfl
@[simp] theorem State.restartSilence_faces : (s.restartSilence).faces = s.faces := rfl
@[simp] theorem State.restartSilence_engine : (s.restartSilence).engine = s.engine := rfl
@[simp] theorem State.restartSilence_link : (s.restartSilence).link = s.link := rfl
@[simp] theorem State.restartSilence_texts : (s.restartSilence).texts = s.texts := rfl
@[simp] theorem State.restartSilence_nextStamp : (s.restartSilence).nextStamp = s.nextStamp := rfl
@[simp] theorem State.restartSilence_approach : (s.restartSilence).approach = s.approach := rfl
@[simp] theorem State.restartSilence_curve : (s.restartSilence).curve = s.curve := rfl
@[simp] theorem State.restartSilence_timing : (s.restartSilence).timing = s.timing := rfl
@[simp] theorem State.restartSilence_port :
    (s.restartSilence).port =
      { s.port with silence := .running s.timing.silenceLimit } := rfl
@[simp] theorem State.restartSilence_notices : (s.restartSilence).notices = s.notices := rfl
@[simp] theorem State.restartSilence_draws : (s.restartSilence).draws = s.draws := rfl
@[simp] theorem State.restartSilence_pending : (s.restartSilence).pending = s.pending := rfl
@[simp] theorem State.restartSilence_face (f : FaceId) : (s.restartSilence).face f = s.face f := rfl

@[simp] theorem State.expireSilence_clock : (s.expireSilence).clock = s.clock := rfl
@[simp] theorem State.expireSilence_services : (s.expireSilence).services = s.services := rfl
@[simp] theorem State.expireSilence_order : (s.expireSilence).order = s.order := rfl
@[simp] theorem State.expireSilence_freeCells : (s.expireSilence).freeCells = s.freeCells := rfl
@[simp] theorem State.expireSilence_places : (s.expireSilence).places = s.places := rfl
@[simp] theorem State.expireSilence_glyphs : (s.expireSilence).glyphs = s.glyphs := rfl
@[simp] theorem State.expireSilence_strikes : (s.expireSilence).strikes = s.strikes := rfl
@[simp] theorem State.expireSilence_scan : (s.expireSilence).scan = s.scan := rfl
@[simp] theorem State.expireSilence_faces : (s.expireSilence).faces = s.faces := rfl
@[simp] theorem State.expireSilence_engine : (s.expireSilence).engine = s.engine := rfl
@[simp] theorem State.expireSilence_link : (s.expireSilence).link = s.link := rfl
@[simp] theorem State.expireSilence_texts : (s.expireSilence).texts = s.texts := rfl
@[simp] theorem State.expireSilence_nextStamp : (s.expireSilence).nextStamp = s.nextStamp := rfl
@[simp] theorem State.expireSilence_approach : (s.expireSilence).approach = s.approach := rfl
@[simp] theorem State.expireSilence_curve : (s.expireSilence).curve = s.curve := rfl
@[simp] theorem State.expireSilence_timing : (s.expireSilence).timing = s.timing := rfl
@[simp] theorem State.expireSilence_port : (s.expireSilence).port = { s.port with silence := .expired } := rfl
@[simp] theorem State.expireSilence_notices : (s.expireSilence).notices = s.notices := rfl
@[simp] theorem State.expireSilence_draws : (s.expireSilence).draws = s.draws := rfl
@[simp] theorem State.expireSilence_pending : (s.expireSilence).pending = s.pending := rfl
@[simp] theorem State.expireSilence_face (f : FaceId) : (s.expireSilence).face f = s.face f := rfl

@[simp] theorem State.pendReply_clock (k : Nat) (a : Answer) : (s.pendReply k a).clock = s.clock := rfl
@[simp] theorem State.pendReply_services (k : Nat) (a : Answer) : (s.pendReply k a).services = s.services := rfl
@[simp] theorem State.pendReply_order (k : Nat) (a : Answer) : (s.pendReply k a).order = s.order := rfl
@[simp] theorem State.pendReply_freeCells (k : Nat) (a : Answer) : (s.pendReply k a).freeCells = s.freeCells := rfl
@[simp] theorem State.pendReply_places (k : Nat) (a : Answer) : (s.pendReply k a).places = s.places := rfl
@[simp] theorem State.pendReply_glyphs (k : Nat) (a : Answer) : (s.pendReply k a).glyphs = s.glyphs := rfl
@[simp] theorem State.pendReply_strikes (k : Nat) (a : Answer) : (s.pendReply k a).strikes = s.strikes := rfl
@[simp] theorem State.pendReply_scan (k : Nat) (a : Answer) : (s.pendReply k a).scan = s.scan := rfl
@[simp] theorem State.pendReply_faces (k : Nat) (a : Answer) : (s.pendReply k a).faces = s.faces := rfl
@[simp] theorem State.pendReply_engine (k : Nat) (a : Answer) : (s.pendReply k a).engine = s.engine := rfl
@[simp] theorem State.pendReply_link (k : Nat) (a : Answer) : (s.pendReply k a).link = s.link := rfl
@[simp] theorem State.pendReply_texts (k : Nat) (a : Answer) : (s.pendReply k a).texts = s.texts := rfl
@[simp] theorem State.pendReply_nextStamp (k : Nat) (a : Answer) : (s.pendReply k a).nextStamp = s.nextStamp := rfl
@[simp] theorem State.pendReply_approach (k : Nat) (a : Answer) : (s.pendReply k a).approach = s.approach := rfl
@[simp] theorem State.pendReply_curve (k : Nat) (a : Answer) : (s.pendReply k a).curve = s.curve := rfl
@[simp] theorem State.pendReply_timing (k : Nat) (a : Answer) : (s.pendReply k a).timing = s.timing := rfl
@[simp] theorem State.pendReply_port (k : Nat) (a : Answer) :
    (s.pendReply k a).port =
      { s.port with reply := some ⟨k, a.result, s.notices.length, a.fields⟩ } := rfl
@[simp] theorem State.pendReply_notices (k : Nat) (a : Answer) : (s.pendReply k a).notices = s.notices := rfl
@[simp] theorem State.pendReply_draws (k : Nat) (a : Answer) : (s.pendReply k a).draws = s.draws := rfl
@[simp] theorem State.pendReply_pending (k : Nat) (a : Answer) : (s.pendReply k a).pending = s.pending := rfl
@[simp] theorem State.pendReply_face (k : Nat) (a : Answer) (f : FaceId) : (s.pendReply k a).face f = s.face f := rfl

@[simp] theorem State.ask_clock (m : SupMsg) : (s.ask m).clock = s.clock := rfl
@[simp] theorem State.ask_services (m : SupMsg) : (s.ask m).services = s.services := rfl
@[simp] theorem State.ask_order (m : SupMsg) : (s.ask m).order = s.order := rfl
@[simp] theorem State.ask_freeCells (m : SupMsg) : (s.ask m).freeCells = s.freeCells := rfl
@[simp] theorem State.ask_places (m : SupMsg) : (s.ask m).places = s.places := rfl
@[simp] theorem State.ask_glyphs (m : SupMsg) : (s.ask m).glyphs = s.glyphs := rfl
@[simp] theorem State.ask_strikes (m : SupMsg) : (s.ask m).strikes = s.strikes := rfl
@[simp] theorem State.ask_scan (m : SupMsg) : (s.ask m).scan = s.scan := rfl
@[simp] theorem State.ask_faces (m : SupMsg) : (s.ask m).faces = s.faces := rfl
@[simp] theorem State.ask_engine (m : SupMsg) : (s.ask m).engine = s.engine := rfl
@[simp] theorem State.ask_link (m : SupMsg) : (s.ask m).link = { s.link with waiting := s.link.waiting ++ [m] } := rfl
@[simp] theorem State.ask_texts (m : SupMsg) : (s.ask m).texts = s.texts := rfl
@[simp] theorem State.ask_nextStamp (m : SupMsg) : (s.ask m).nextStamp = s.nextStamp := rfl
@[simp] theorem State.ask_approach (m : SupMsg) : (s.ask m).approach = s.approach := rfl
@[simp] theorem State.ask_curve (m : SupMsg) : (s.ask m).curve = s.curve := rfl
@[simp] theorem State.ask_timing (m : SupMsg) : (s.ask m).timing = s.timing := rfl
@[simp] theorem State.ask_port (m : SupMsg) : (s.ask m).port = s.port := rfl
@[simp] theorem State.ask_notices (m : SupMsg) : (s.ask m).notices = s.notices := rfl
@[simp] theorem State.ask_draws (m : SupMsg) : (s.ask m).draws = s.draws := rfl
@[simp] theorem State.ask_pending (m : SupMsg) : (s.ask m).pending = s.pending := rfl
@[simp] theorem State.ask_face (m : SupMsg) (f : FaceId) : (s.ask m).face f = s.face f := rfl

@[simp] theorem State.engineAsks_clock : (s.engineAsks).clock = s.clock := rfl
@[simp] theorem State.engineAsks_services : (s.engineAsks).services = s.services := rfl
@[simp] theorem State.engineAsks_order : (s.engineAsks).order = s.order := rfl
@[simp] theorem State.engineAsks_freeCells : (s.engineAsks).freeCells = s.freeCells := rfl
@[simp] theorem State.engineAsks_places : (s.engineAsks).places = s.places := rfl
@[simp] theorem State.engineAsks_glyphs : (s.engineAsks).glyphs = s.glyphs := rfl
@[simp] theorem State.engineAsks_strikes : (s.engineAsks).strikes = s.strikes := rfl
@[simp] theorem State.engineAsks_scan : (s.engineAsks).scan = s.scan := rfl
@[simp] theorem State.engineAsks_faces : (s.engineAsks).faces = s.faces := rfl
@[simp] theorem State.engineAsks_engine : (s.engineAsks).engine = s.engine := rfl
@[simp] theorem State.engineAsks_link : (s.engineAsks).link = { s.link with engineWaits := true } := rfl
@[simp] theorem State.engineAsks_texts : (s.engineAsks).texts = s.texts := rfl
@[simp] theorem State.engineAsks_nextStamp : (s.engineAsks).nextStamp = s.nextStamp := rfl
@[simp] theorem State.engineAsks_approach : (s.engineAsks).approach = s.approach := rfl
@[simp] theorem State.engineAsks_curve : (s.engineAsks).curve = s.curve := rfl
@[simp] theorem State.engineAsks_timing : (s.engineAsks).timing = s.timing := rfl
@[simp] theorem State.engineAsks_port : (s.engineAsks).port = s.port := rfl
@[simp] theorem State.engineAsks_notices : (s.engineAsks).notices = s.notices := rfl
@[simp] theorem State.engineAsks_draws : (s.engineAsks).draws = s.draws := rfl
@[simp] theorem State.engineAsks_pending : (s.engineAsks).pending = s.pending := rfl
@[simp] theorem State.engineAsks_face (f : FaceId) : (s.engineAsks).face f = s.face f := rfl

@[simp] theorem State.withdraw_clock (p : SupMsg → Bool) : (s.withdraw p).clock = s.clock := rfl
@[simp] theorem State.withdraw_services (p : SupMsg → Bool) : (s.withdraw p).services = s.services := rfl
@[simp] theorem State.withdraw_order (p : SupMsg → Bool) : (s.withdraw p).order = s.order := rfl
@[simp] theorem State.withdraw_freeCells (p : SupMsg → Bool) : (s.withdraw p).freeCells = s.freeCells := rfl
@[simp] theorem State.withdraw_places (p : SupMsg → Bool) : (s.withdraw p).places = s.places := rfl
@[simp] theorem State.withdraw_glyphs (p : SupMsg → Bool) : (s.withdraw p).glyphs = s.glyphs := rfl
@[simp] theorem State.withdraw_strikes (p : SupMsg → Bool) : (s.withdraw p).strikes = s.strikes := rfl
@[simp] theorem State.withdraw_scan (p : SupMsg → Bool) : (s.withdraw p).scan = s.scan := rfl
@[simp] theorem State.withdraw_faces (p : SupMsg → Bool) : (s.withdraw p).faces = s.faces := rfl
@[simp] theorem State.withdraw_engine (p : SupMsg → Bool) : (s.withdraw p).engine = s.engine := rfl
@[simp] theorem State.withdraw_link (p : SupMsg → Bool) :
    (s.withdraw p).link =
      { s.link with waiting := s.link.waiting.filter fun m => !p m } := rfl
@[simp] theorem State.withdraw_texts (p : SupMsg → Bool) : (s.withdraw p).texts = s.texts := rfl
@[simp] theorem State.withdraw_nextStamp (p : SupMsg → Bool) : (s.withdraw p).nextStamp = s.nextStamp := rfl
@[simp] theorem State.withdraw_approach (p : SupMsg → Bool) : (s.withdraw p).approach = s.approach := rfl
@[simp] theorem State.withdraw_curve (p : SupMsg → Bool) : (s.withdraw p).curve = s.curve := rfl
@[simp] theorem State.withdraw_timing (p : SupMsg → Bool) : (s.withdraw p).timing = s.timing := rfl
@[simp] theorem State.withdraw_port (p : SupMsg → Bool) : (s.withdraw p).port = s.port := rfl
@[simp] theorem State.withdraw_notices (p : SupMsg → Bool) : (s.withdraw p).notices = s.notices := rfl
@[simp] theorem State.withdraw_draws (p : SupMsg → Bool) : (s.withdraw p).draws = s.draws := rfl
@[simp] theorem State.withdraw_pending (p : SupMsg → Bool) : (s.withdraw p).pending = s.pending := rfl
@[simp] theorem State.withdraw_face (p : SupMsg → Bool) (f : FaceId) : (s.withdraw p).face f = s.face f := rfl

@[simp] theorem State.disown_clock (p : PanelMsg → MsgOwner → Bool) : (s.disown p).clock = s.clock := rfl
@[simp] theorem State.disown_services (p : PanelMsg → MsgOwner → Bool) : (s.disown p).services = s.services := rfl
@[simp] theorem State.disown_order (p : PanelMsg → MsgOwner → Bool) : (s.disown p).order = s.order := rfl
@[simp] theorem State.disown_freeCells (p : PanelMsg → MsgOwner → Bool) : (s.disown p).freeCells = s.freeCells := rfl
@[simp] theorem State.disown_places (p : PanelMsg → MsgOwner → Bool) : (s.disown p).places = s.places := rfl
@[simp] theorem State.disown_glyphs (p : PanelMsg → MsgOwner → Bool) : (s.disown p).glyphs = s.glyphs := rfl
@[simp] theorem State.disown_strikes (p : PanelMsg → MsgOwner → Bool) : (s.disown p).strikes = s.strikes := rfl
@[simp] theorem State.disown_scan (p : PanelMsg → MsgOwner → Bool) : (s.disown p).scan = s.scan := rfl
@[simp] theorem State.disown_faces (p : PanelMsg → MsgOwner → Bool) : (s.disown p).faces = s.faces := rfl
@[simp] theorem State.disown_engine (p : PanelMsg → MsgOwner → Bool) : (s.disown p).engine = s.engine := rfl
@[simp] theorem State.disown_link (p : PanelMsg → MsgOwner → Bool) :
    (s.disown p).link =
      { s.link with tx := s.link.tx.disown p } := rfl
@[simp] theorem State.disown_texts (p : PanelMsg → MsgOwner → Bool) : (s.disown p).texts = s.texts := rfl
@[simp] theorem State.disown_nextStamp (p : PanelMsg → MsgOwner → Bool) : (s.disown p).nextStamp = s.nextStamp := rfl
@[simp] theorem State.disown_approach (p : PanelMsg → MsgOwner → Bool) : (s.disown p).approach = s.approach := rfl
@[simp] theorem State.disown_curve (p : PanelMsg → MsgOwner → Bool) : (s.disown p).curve = s.curve := rfl
@[simp] theorem State.disown_timing (p : PanelMsg → MsgOwner → Bool) : (s.disown p).timing = s.timing := rfl
@[simp] theorem State.disown_port (p : PanelMsg → MsgOwner → Bool) : (s.disown p).port = s.port := rfl
@[simp] theorem State.disown_notices (p : PanelMsg → MsgOwner → Bool) : (s.disown p).notices = s.notices := rfl
@[simp] theorem State.disown_draws (p : PanelMsg → MsgOwner → Bool) : (s.disown p).draws = s.draws := rfl
@[simp] theorem State.disown_pending (p : PanelMsg → MsgOwner → Bool) : (s.disown p).pending = s.pending := rfl
@[simp] theorem State.disown_face (p : PanelMsg → MsgOwner → Bool) (f : FaceId) : (s.disown p).face f = s.face f := rfl

@[simp] theorem State.setTransmitter_clock (t : Transmitter) : (s.setTransmitter t).clock = s.clock := rfl
@[simp] theorem State.setTransmitter_services (t : Transmitter) : (s.setTransmitter t).services = s.services := rfl
@[simp] theorem State.setTransmitter_order (t : Transmitter) : (s.setTransmitter t).order = s.order := rfl
@[simp] theorem State.setTransmitter_freeCells (t : Transmitter) : (s.setTransmitter t).freeCells = s.freeCells := rfl
@[simp] theorem State.setTransmitter_places (t : Transmitter) : (s.setTransmitter t).places = s.places := rfl
@[simp] theorem State.setTransmitter_glyphs (t : Transmitter) : (s.setTransmitter t).glyphs = s.glyphs := rfl
@[simp] theorem State.setTransmitter_strikes (t : Transmitter) : (s.setTransmitter t).strikes = s.strikes := rfl
@[simp] theorem State.setTransmitter_scan (t : Transmitter) : (s.setTransmitter t).scan = s.scan := rfl
@[simp] theorem State.setTransmitter_faces (t : Transmitter) : (s.setTransmitter t).faces = s.faces := rfl
@[simp] theorem State.setTransmitter_engine (t : Transmitter) : (s.setTransmitter t).engine = s.engine := rfl
@[simp] theorem State.setTransmitter_link (t : Transmitter) : (s.setTransmitter t).link = { s.link with tx := t } := rfl
@[simp] theorem State.setTransmitter_texts (t : Transmitter) : (s.setTransmitter t).texts = s.texts := rfl
@[simp] theorem State.setTransmitter_nextStamp (t : Transmitter) : (s.setTransmitter t).nextStamp = s.nextStamp := rfl
@[simp] theorem State.setTransmitter_approach (t : Transmitter) : (s.setTransmitter t).approach = s.approach := rfl
@[simp] theorem State.setTransmitter_curve (t : Transmitter) : (s.setTransmitter t).curve = s.curve := rfl
@[simp] theorem State.setTransmitter_timing (t : Transmitter) : (s.setTransmitter t).timing = s.timing := rfl
@[simp] theorem State.setTransmitter_port (t : Transmitter) : (s.setTransmitter t).port = s.port := rfl
@[simp] theorem State.setTransmitter_notices (t : Transmitter) : (s.setTransmitter t).notices = s.notices := rfl
@[simp] theorem State.setTransmitter_draws (t : Transmitter) : (s.setTransmitter t).draws = s.draws := rfl
@[simp] theorem State.setTransmitter_pending (t : Transmitter) : (s.setTransmitter t).pending = s.pending := rfl
@[simp] theorem State.setTransmitter_face (t : Transmitter) (f : FaceId) : (s.setTransmitter t).face f = s.face f := rfl

@[simp] theorem State.setRender_clock (r : Render) : (s.setRender r).clock = s.clock := rfl
@[simp] theorem State.setRender_services (r : Render) : (s.setRender r).services = s.services := rfl
@[simp] theorem State.setRender_order (r : Render) : (s.setRender r).order = s.order := rfl
@[simp] theorem State.setRender_freeCells (r : Render) : (s.setRender r).freeCells = s.freeCells := rfl
@[simp] theorem State.setRender_places (r : Render) : (s.setRender r).places = s.places := rfl
@[simp] theorem State.setRender_glyphs (r : Render) : (s.setRender r).glyphs = s.glyphs := rfl
@[simp] theorem State.setRender_strikes (r : Render) : (s.setRender r).strikes = s.strikes := rfl
@[simp] theorem State.setRender_scan (r : Render) : (s.setRender r).scan = s.scan := rfl
@[simp] theorem State.setRender_faces (r : Render) : (s.setRender r).faces = s.faces := rfl
@[simp] theorem State.setRender_engine (r : Render) : (s.setRender r).engine = { s.engine with render := some r } := rfl
@[simp] theorem State.setRender_link (r : Render) : (s.setRender r).link = s.link := rfl
@[simp] theorem State.setRender_texts (r : Render) : (s.setRender r).texts = s.texts := rfl
@[simp] theorem State.setRender_nextStamp (r : Render) : (s.setRender r).nextStamp = s.nextStamp := rfl
@[simp] theorem State.setRender_approach (r : Render) : (s.setRender r).approach = s.approach := rfl
@[simp] theorem State.setRender_curve (r : Render) : (s.setRender r).curve = s.curve := rfl
@[simp] theorem State.setRender_timing (r : Render) : (s.setRender r).timing = s.timing := rfl
@[simp] theorem State.setRender_port (r : Render) : (s.setRender r).port = s.port := rfl
@[simp] theorem State.setRender_notices (r : Render) : (s.setRender r).notices = s.notices := rfl
@[simp] theorem State.setRender_draws (r : Render) : (s.setRender r).draws = s.draws := rfl
@[simp] theorem State.setRender_pending (r : Render) : (s.setRender r).pending = s.pending := rfl
@[simp] theorem State.setRender_face (r : Render) (f : FaceId) : (s.setRender r).face f = s.face f := rfl

@[simp] theorem State.setText_clock (src : Source) (t : Text) : (s.setText src t).clock = s.clock := rfl
@[simp] theorem State.setText_services (src : Source) (t : Text) : (s.setText src t).services = s.services := rfl
@[simp] theorem State.setText_order (src : Source) (t : Text) : (s.setText src t).order = s.order := rfl
@[simp] theorem State.setText_freeCells (src : Source) (t : Text) : (s.setText src t).freeCells = s.freeCells := rfl
@[simp] theorem State.setText_places (src : Source) (t : Text) : (s.setText src t).places = s.places := rfl
@[simp] theorem State.setText_glyphs (src : Source) (t : Text) : (s.setText src t).glyphs = s.glyphs := rfl
@[simp] theorem State.setText_strikes (src : Source) (t : Text) : (s.setText src t).strikes = s.strikes := rfl
@[simp] theorem State.setText_scan (src : Source) (t : Text) : (s.setText src t).scan = s.scan := rfl
@[simp] theorem State.setText_faces (src : Source) (t : Text) : (s.setText src t).faces = s.faces := rfl
@[simp] theorem State.setText_engine (src : Source) (t : Text) : (s.setText src t).engine = s.engine := rfl
@[simp] theorem State.setText_link (src : Source) (t : Text) : (s.setText src t).link = s.link := rfl
@[simp] theorem State.setText_texts (src : Source) (t : Text) : (s.setText src t).texts = s.texts.set src t := rfl
@[simp] theorem State.setText_nextStamp (src : Source) (t : Text) : (s.setText src t).nextStamp = s.nextStamp := rfl
@[simp] theorem State.setText_approach (src : Source) (t : Text) : (s.setText src t).approach = s.approach := rfl
@[simp] theorem State.setText_curve (src : Source) (t : Text) : (s.setText src t).curve = s.curve := rfl
@[simp] theorem State.setText_timing (src : Source) (t : Text) : (s.setText src t).timing = s.timing := rfl
@[simp] theorem State.setText_port (src : Source) (t : Text) : (s.setText src t).port = s.port := rfl
@[simp] theorem State.setText_notices (src : Source) (t : Text) : (s.setText src t).notices = s.notices := rfl
@[simp] theorem State.setText_draws (src : Source) (t : Text) : (s.setText src t).draws = s.draws := rfl
@[simp] theorem State.setText_pending (src : Source) (t : Text) : (s.setText src t).pending = s.pending := rfl
@[simp] theorem State.setText_face (src : Source) (t : Text) (f : FaceId) : (s.setText src t).face f = s.face f := rfl

@[simp] theorem State.modInput_clock (i : InputId) (g : Approach → Approach) : (s.modInput i g).clock = s.clock := rfl
@[simp] theorem State.modInput_services (i : InputId) (g : Approach → Approach) : (s.modInput i g).services = s.services := rfl
@[simp] theorem State.modInput_order (i : InputId) (g : Approach → Approach) : (s.modInput i g).order = s.order := rfl
@[simp] theorem State.modInput_freeCells (i : InputId) (g : Approach → Approach) : (s.modInput i g).freeCells = s.freeCells := rfl
@[simp] theorem State.modInput_places (i : InputId) (g : Approach → Approach) : (s.modInput i g).places = s.places := rfl
@[simp] theorem State.modInput_glyphs (i : InputId) (g : Approach → Approach) : (s.modInput i g).glyphs = s.glyphs := rfl
@[simp] theorem State.modInput_strikes (i : InputId) (g : Approach → Approach) : (s.modInput i g).strikes = s.strikes := rfl
@[simp] theorem State.modInput_scan (i : InputId) (g : Approach → Approach) : (s.modInput i g).scan = s.scan := rfl
@[simp] theorem State.modInput_faces (i : InputId) (g : Approach → Approach) : (s.modInput i g).faces = s.faces := rfl
@[simp] theorem State.modInput_engine (i : InputId) (g : Approach → Approach) : (s.modInput i g).engine = s.engine := rfl
@[simp] theorem State.modInput_link (i : InputId) (g : Approach → Approach) : (s.modInput i g).link = s.link := rfl
@[simp] theorem State.modInput_texts (i : InputId) (g : Approach → Approach) : (s.modInput i g).texts = s.texts := rfl
@[simp] theorem State.modInput_nextStamp (i : InputId) (g : Approach → Approach) : (s.modInput i g).nextStamp = s.nextStamp := rfl
@[simp] theorem State.modInput_approach (i : InputId) (g : Approach → Approach) :
    (s.modInput i g).approach =
      s.approach.set i (g (s.approach.get i)) := rfl
@[simp] theorem State.modInput_curve (i : InputId) (g : Approach → Approach) : (s.modInput i g).curve = s.curve := rfl
@[simp] theorem State.modInput_timing (i : InputId) (g : Approach → Approach) : (s.modInput i g).timing = s.timing := rfl
@[simp] theorem State.modInput_port (i : InputId) (g : Approach → Approach) : (s.modInput i g).port = s.port := rfl
@[simp] theorem State.modInput_notices (i : InputId) (g : Approach → Approach) : (s.modInput i g).notices = s.notices := rfl
@[simp] theorem State.modInput_draws (i : InputId) (g : Approach → Approach) : (s.modInput i g).draws = s.draws := rfl
@[simp] theorem State.modInput_pending (i : InputId) (g : Approach → Approach) : (s.modInput i g).pending = s.pending := rfl
@[simp] theorem State.modInput_face (i : InputId) (g : Approach → Approach) (f : FaceId) : (s.modInput i g).face f = s.face f := rfl

@[simp] theorem State.startScan_clock (op : ScanOp) (k : Nat) : (s.startScan op k).clock = s.clock := rfl
@[simp] theorem State.startScan_services (op : ScanOp) (k : Nat) : (s.startScan op k).services = s.services := rfl
@[simp] theorem State.startScan_order (op : ScanOp) (k : Nat) : (s.startScan op k).order = s.order := rfl
@[simp] theorem State.startScan_freeCells (op : ScanOp) (k : Nat) : (s.startScan op k).freeCells = s.freeCells := rfl
@[simp] theorem State.startScan_places (op : ScanOp) (k : Nat) : (s.startScan op k).places = s.places := rfl
@[simp] theorem State.startScan_glyphs (op : ScanOp) (k : Nat) : (s.startScan op k).glyphs = s.glyphs := rfl
@[simp] theorem State.startScan_strikes (op : ScanOp) (k : Nat) : (s.startScan op k).strikes = s.strikes := rfl
@[simp] theorem State.startScan_scan (op : ScanOp) (k : Nat) :
    (s.startScan op k).scan =
      some { op := op, id := k, next := 0, marks := 0, touched := 0 } := rfl
@[simp] theorem State.startScan_faces (op : ScanOp) (k : Nat) : (s.startScan op k).faces = s.faces := rfl
@[simp] theorem State.startScan_engine (op : ScanOp) (k : Nat) : (s.startScan op k).engine = s.engine := rfl
@[simp] theorem State.startScan_link (op : ScanOp) (k : Nat) : (s.startScan op k).link = s.link := rfl
@[simp] theorem State.startScan_texts (op : ScanOp) (k : Nat) : (s.startScan op k).texts = s.texts := rfl
@[simp] theorem State.startScan_nextStamp (op : ScanOp) (k : Nat) : (s.startScan op k).nextStamp = s.nextStamp := rfl
@[simp] theorem State.startScan_approach (op : ScanOp) (k : Nat) : (s.startScan op k).approach = s.approach := rfl
@[simp] theorem State.startScan_curve (op : ScanOp) (k : Nat) : (s.startScan op k).curve = s.curve := rfl
@[simp] theorem State.startScan_timing (op : ScanOp) (k : Nat) : (s.startScan op k).timing = s.timing := rfl
@[simp] theorem State.startScan_port (op : ScanOp) (k : Nat) : (s.startScan op k).port = s.port := rfl
@[simp] theorem State.startScan_notices (op : ScanOp) (k : Nat) : (s.startScan op k).notices = s.notices := rfl
@[simp] theorem State.startScan_draws (op : ScanOp) (k : Nat) : (s.startScan op k).draws = s.draws := rfl
@[simp] theorem State.startScan_pending (op : ScanOp) (k : Nat) : (s.startScan op k).pending = s.pending := rfl
@[simp] theorem State.startScan_face (op : ScanOp) (k : Nat) (f : FaceId) : (s.startScan op k).face f = s.face f := rfl

@[simp] theorem State.releaseStrike_clock (k : Nat) : (s.releaseStrike k).clock = s.clock := rfl
@[simp] theorem State.releaseStrike_services (k : Nat) : (s.releaseStrike k).services = s.services := rfl
@[simp] theorem State.releaseStrike_order (k : Nat) : (s.releaseStrike k).order = s.order := rfl
@[simp] theorem State.releaseStrike_freeCells (k : Nat) : (s.releaseStrike k).freeCells = s.freeCells := rfl
@[simp] theorem State.releaseStrike_places (k : Nat) : (s.releaseStrike k).places = s.places := rfl
@[simp] theorem State.releaseStrike_glyphs (k : Nat) : (s.releaseStrike k).glyphs = s.glyphs := rfl
@[simp] theorem State.releaseStrike_scan (k : Nat) : (s.releaseStrike k).scan = s.scan := rfl
@[simp] theorem State.releaseStrike_faces (k : Nat) : (s.releaseStrike k).faces = s.faces := rfl
@[simp] theorem State.releaseStrike_engine (k : Nat) : (s.releaseStrike k).engine = s.engine := rfl
@[simp] theorem State.releaseStrike_link (k : Nat) : (s.releaseStrike k).link = s.link := rfl
@[simp] theorem State.releaseStrike_texts (k : Nat) : (s.releaseStrike k).texts = s.texts := rfl
@[simp] theorem State.releaseStrike_nextStamp (k : Nat) : (s.releaseStrike k).nextStamp = s.nextStamp := rfl
@[simp] theorem State.releaseStrike_approach (k : Nat) : (s.releaseStrike k).approach = s.approach := rfl
@[simp] theorem State.releaseStrike_curve (k : Nat) : (s.releaseStrike k).curve = s.curve := rfl
@[simp] theorem State.releaseStrike_timing (k : Nat) : (s.releaseStrike k).timing = s.timing := rfl
@[simp] theorem State.releaseStrike_port (k : Nat) : (s.releaseStrike k).port = s.port := rfl
@[simp] theorem State.releaseStrike_notices (k : Nat) : (s.releaseStrike k).notices = s.notices := rfl
@[simp] theorem State.releaseStrike_draws (k : Nat) : (s.releaseStrike k).draws = s.draws := rfl
@[simp] theorem State.releaseStrike_pending (k : Nat) : (s.releaseStrike k).pending = s.pending := rfl
@[simp] theorem State.releaseStrike_face (k : Nat) (f : FaceId) : (s.releaseStrike k).face f = s.face f := rfl

@[simp] theorem State.withPending_clock (cs : List Instr) : (s.withPending cs).clock = s.clock := rfl
@[simp] theorem State.withPending_services (cs : List Instr) : (s.withPending cs).services = s.services := rfl
@[simp] theorem State.withPending_order (cs : List Instr) : (s.withPending cs).order = s.order := rfl
@[simp] theorem State.withPending_freeCells (cs : List Instr) : (s.withPending cs).freeCells = s.freeCells := rfl
@[simp] theorem State.withPending_places (cs : List Instr) : (s.withPending cs).places = s.places := rfl
@[simp] theorem State.withPending_glyphs (cs : List Instr) : (s.withPending cs).glyphs = s.glyphs := rfl
@[simp] theorem State.withPending_strikes (cs : List Instr) : (s.withPending cs).strikes = s.strikes := rfl
@[simp] theorem State.withPending_scan (cs : List Instr) : (s.withPending cs).scan = s.scan := rfl
@[simp] theorem State.withPending_faces (cs : List Instr) : (s.withPending cs).faces = s.faces := rfl
@[simp] theorem State.withPending_engine (cs : List Instr) : (s.withPending cs).engine = s.engine := rfl
@[simp] theorem State.withPending_link (cs : List Instr) : (s.withPending cs).link = s.link := rfl
@[simp] theorem State.withPending_texts (cs : List Instr) : (s.withPending cs).texts = s.texts := rfl
@[simp] theorem State.withPending_nextStamp (cs : List Instr) : (s.withPending cs).nextStamp = s.nextStamp := rfl
@[simp] theorem State.withPending_approach (cs : List Instr) : (s.withPending cs).approach = s.approach := rfl
@[simp] theorem State.withPending_curve (cs : List Instr) : (s.withPending cs).curve = s.curve := rfl
@[simp] theorem State.withPending_timing (cs : List Instr) : (s.withPending cs).timing = s.timing := rfl
@[simp] theorem State.withPending_port (cs : List Instr) : (s.withPending cs).port = s.port := rfl
@[simp] theorem State.withPending_notices (cs : List Instr) : (s.withPending cs).notices = s.notices := rfl
@[simp] theorem State.withPending_draws (cs : List Instr) : (s.withPending cs).draws = s.draws := rfl
@[simp] theorem State.withPending_pending (cs : List Instr) : (s.withPending cs).pending = cs := rfl
@[simp] theorem State.withPending_face (cs : List Instr) (f : FaceId) : (s.withPending cs).face f = s.face f := rfl

end Sys2Proof.Machine
end

