-- ==== Sys2Proof/Laws/Frame.lean ====
section
/-! SUPPORT. Frames of the shared operations: one lemma for each, saying which blocks it can touch. -/

namespace Sys2Proof.Machine

open Sys2Proof

variable {s t u : State} {bs cs : List Block}

theorem State.agrees.trans {b : Block} (h : s.agrees t b) (k : t.agrees u b) : s.agrees u b := by
  cases b <;> exact Eq.trans k h

theorem State.changesOnly.refl : s.changesOnly s bs := fun b _ => by cases b <;> rfl

theorem State.changesOnly.mono (h : s.changesOnly t bs) (sub : bs ⊆ cs) : s.changesOnly t cs :=
  fun b n => h b fun m => n (sub m)

theorem State.changesOnly.trans (h : s.changesOnly t bs) (k : t.changesOnly u bs) : s.changesOnly u bs :=
  fun b n => (h b n).trans (k b n)

/-- Two steps of one event: the blocks of both. -/
theorem State.changesOnly.append (h : s.changesOnly t bs) (k : t.changesOnly u cs) : s.changesOnly u (bs ++ cs) :=
  (h.mono (List.subset_append_left _ _)).trans (k.mono (List.subset_append_right _ _))

theorem State.changesOnly.ite {c : Prop} [Decidable c] (h : s.changesOnly t bs) (k : s.changesOnly u bs) :
    s.changesOnly (if c then t else u) bs := by split <;> assumption

/-- A fold of operations that each keep to the blocks listed keeps to them. -/
theorem State.changesOnly.foldl {α : Type} (act : State → α → State) (h : ∀ (s : State) a, s.changesOnly (act s a) bs) (l : List α) :
    s.changesOnly (l.foldl act s) bs := by
  induction l generalizing s with
  | nil => exact .refl
  | cons a l ih => exact (h s a).trans ih

/-! ### Primitive updates -/

section Primitive

theorem State.modFace_frame (f : FaceId) (g : Face → Face) : s.changesOnly (s.modFace f g) [.faces] := by
  intro b n; cases b <;> first | rfl | exact absurd (by decide) n

theorem State.mapFaces_frame (g : FaceId → Face → Face) : s.changesOnly (s.mapFaces g) [.faces] := by
  intro b n; cases b <;> first | rfl | exact absurd (by decide) n

theorem State.post_frame (n : Notice) : s.changesOnly (s.post n) [.notices] := by
  intro b n; cases b <;> first | rfl | exact absurd (by decide) n

theorem State.link_frame (l : PanelLink) : s.changesOnly { s with link := l } [.link] := by
  intro b n; cases b <;> first | rfl | exact absurd (by decide) n

theorem State.engine_frame (e : Engine) : s.changesOnly { s with engine := e } [.engine] := by
  intro b n; cases b <;> first | rfl | exact absurd (by decide) n

theorem State.port_frame (p : Port) : s.changesOnly { s with port := p } [.port] := by
  intro b n; cases b <;> first | rfl | exact absurd (by decide) n

theorem State.clock_frame (c : Clock) : s.changesOnly { s with clock := c } [.clock] := by
  intro b n; cases b <;> first | rfl | exact absurd (by decide) n

theorem State.modService_frame (k : Nat) (g : Service → Service) : s.changesOnly (s.modService k g) [.services] := by
  intro b n; cases b <;> first | rfl | exact absurd (by decide) n

theorem State.gainRefs_frame (ids : List Nat) : s.changesOnly (s.gainRefs ids) [.places] := by
  intro b n; cases b <;> first | rfl | exact absurd (by decide) n

theorem State.loseRefs_frame (ids : List Nat) : s.changesOnly (s.loseRefs ids) [.places] := by
  intro b n; cases b <;> first | rfl | exact absurd (by decide) n

theorem State.returnCells_frame (n : Nat) : s.changesOnly (s.returnCells n) [.freeCells] := by
  intro b n; cases b <;> first | rfl | exact absurd (by decide) n

theorem State.takeCells_frame (n : Nat) : s.changesOnly (s.takeCells n) [.freeCells] := by
  intro b n; cases b <;> first | rfl | exact absurd (by decide) n

theorem State.reorder_frame : s.changesOnly s.reorder [.order] := by
  intro b n; cases b <;> first | rfl | exact absurd (by decide) n

theorem State.modInput_frame (i : InputId) (g : Approach → Approach) : s.changesOnly (s.modInput i g) [.approach] := by
  intro b n; cases b <;> first | rfl | exact absurd (by decide) n

theorem State.setText_frame (src : Source) (x : Text) : s.changesOnly (s.setText src x) [.texts] := by
  intro b n; cases b <;> first | rfl | exact absurd (by decide) n

theorem State.modPanel_frame (f : FaceId) (g : Panel → Panel) : s.changesOnly (s.modPanel f g) [.faces] :=
  s.modFace_frame f _

theorem State.modLine_frame (f : FaceId) (j : LineId) (g : Line → Line) : s.changesOnly (s.modLine f j g) [.faces] :=
  s.modFace_frame f _

theorem State.modBright_frame (f : FaceId) (g : Brightness → Brightness) : s.changesOnly (s.modBright f g) [.faces] :=
  s.modFace_frame f _

theorem State.ask_frame (m : SupMsg) : s.changesOnly (s.ask m) [.link] := s.link_frame _

theorem State.engineAsks_frame : s.changesOnly s.engineAsks [.link] := s.link_frame _

theorem State.withdraw_frame (p : SupMsg → Bool) : s.changesOnly (s.withdraw p) [.link] := s.link_frame _

theorem State.disown_frame (p : PanelMsg → MsgOwner → Bool) : s.changesOnly (s.disown p) [.link] := s.link_frame _

theorem State.setTransmitter_frame (x : Transmitter) : s.changesOnly (s.setTransmitter x) [.link] := s.link_frame _

theorem State.setRender_frame (r : Render) : s.changesOnly (s.setRender r) [.engine] := s.engine_frame _

end Primitive

/-! ### Composer and staleness: faces and render record only -/

theorem State.startAreas_frame (w : FaceId → Face → LineId → Bool) : s.changesOnly (s.startAreas w) [.faces] :=
  s.mapFaces_frame _

theorem State.handText_frame (w : FaceId → Face → LineId → Bool) : s.changesOnly (s.handText w) [.faces] :=
  s.mapFaces_frame _

theorem State.handOff_frame (c : Change) : s.changesOnly (s.handOff c) [.faces] := by
  unfold State.handOff; exact (s.startAreas_frame _).trans (State.handText_frame _)

theorem State.rotateForOrder_frame : s.changesOnly s.rotateForOrder [.faces] := s.mapFaces_frame _

theorem State.markStale_frame (c : Change) : s.changesOnly (s.markStale c) [.faces, .engine] := by
  intro b n; cases b <;> first | rfl | exact absurd (by decide) n

/-- A report touches what faces hold and the overtaken lines of the render. -/
theorem State.report_frame (c : Change) : s.changesOnly (s.report c) [.faces, .engine] := by
  have key (s₁ : State) (h : s.changesOnly s₁ [.faces]) :
      s.changesOnly ((s₁.handOff c).markStale c) [.faces, .engine] :=
    ((h.trans (State.handOff_frame c)).mono (by decide)).trans (State.markStale_frame c)
  unfold State.report
  cases c
  case order => exact key _ s.rotateForOrder_frame
  all_goals exact key s .refl

theorem State.reports_frame (cs : List Change) : s.changesOnly (s.reports cs) [.faces, .engine] := by
  unfold State.reports; exact .foldl _ (fun _ c => State.report_frame c) cs

/-! ### Engine and transmitter -/

theorem State.raiseRequests_frame : s.changesOnly s.raiseRequests [.faces] := s.mapFaces_frame _

theorem State.grant_frame (f : FaceId) : s.changesOnly (s.grant f) settleBlocks := by
  intro b n; cases b <;> first | rfl | exact absurd (by decide) n

theorem State.grantNext_frame : s.changesOnly s.grantNext settleBlocks := by
  unfold State.grantNext; split
  · exact s.grant_frame _
  · exact .refl

theorem State.giveTransmitter_frame : s.changesOnly s.giveTransmitter [.link] := by
  unfold State.giveTransmitter
  repeat' split
  all_goals exact s.link_frame _

/-- The end of an event touches request states, the engine and the panel link only. -/
theorem State.settle_frame : s.changesOnly s.settle settleBlocks := by
  unfold State.settle; exact ((s.raiseRequests_frame.mono (by decide)).trans State.grantNext_frame).trans
    (State.giveTransmitter_frame.mono (by decide))

theorem State.release_frame : s.changesOnly s.release settleBlocks := by
  unfold State.release; split
  · exact .refl
  · intro b n; cases b <;> first | rfl | exact absurd (by decide) n

theorem State.abandon_frame : s.changesOnly s.abandon settleBlocks := by
  unfold State.abandon; split
  · exact .refl
  · exact ((s.modFace_frame _ _).mono (by decide)).trans State.release_frame

theorem State.mismatch_frame (f : FaceId) (b : Buf) : s.changesOnly (s.mismatch f b) [.faces] := s.modFace_frame _ _

theorem State.strayShown_frame (f : FaceId) (b : Buf) : s.changesOnly (s.strayShown f b) settleBlocks := by
  unfold State.strayShown
  repeat' split
  · exact ((s.mismatch_frame f b).mono (by decide)).trans State.abandon_frame
  · exact (s.mismatch_frame f b).mono (by decide)
  · exact .refl

/-! ### Overrides -/

theorem State.raiseOn_frame (src : Source) (m : Quad Bool) : s.changesOnly (s.raiseOn src m) [.faces, .stamps] := by
  intro b n; cases b <;> first | rfl | exact absurd (by decide) n

theorem State.removeOn_frame (src : Source) (m : Quad Bool) : s.changesOnly (s.removeOn src m) [.faces] :=
  s.mapFaces_frame _

theorem State.restartPage_frame (f : FaceId) : s.changesOnly (s.restartPage f) [.faces] := s.modFace_frame _ _

theorem State.setWarnings_frame (m : Quad Bool) (x : Timer) : s.changesOnly (s.setWarnings m x) [.faces] :=
  s.mapFaces_frame _

theorem State.overrideReport_frame (before : State) (f : FaceId) :
    s.changesOnly (State.overrideReport before s f) [.faces, .engine] := by
  have h₁ : s.changesOnly ((s.restartPage f).report (.override f)) [.faces, .engine] :=
    ((s.restartPage_frame f).mono (by decide)).trans (State.report_frame _)
  have h₂ := State.changesOnly.ite (c := s.shownOverride f ≠ before.shownOverride f) h₁ .refl
  have h₃ := State.changesOnly.ite (c := s.heldNotice f ≠ before.heldNotice f)
    (h₂.trans (State.report_frame (.notice f))) h₂
  exact .ite (h₃.trans ((State.modBright_frame _ _).mono (by decide))) h₃

/-- The reports of an override event touch what faces hold and the render record (R153). -/
theorem State.overrideReports_frame (before : State) : s.changesOnly (s.overrideReports before) [.faces, .engine] := by
  unfold State.overrideReports; exact .foldl _ (fun _ f => State.overrideReport_frame before f) _

/-- An event that changed no current override, no notice and no level-3 state of any face makes no report (R153). -/
theorem State.overrideReports_none {before : State} (o : ∀ f, s.shownOverride f = before.shownOverride f)
    (n : ∀ f, s.heldNotice f = before.heldNotice f) (l : ∀ f, s.level3 f = before.level3 f) :
    s.overrideReports before = s := by
  have key (f : FaceId) : State.overrideReport before s f = s := by simp [State.overrideReport, o, n, l]
  simp [State.overrideReports, Four.all, key]

theorem State.endFeedLoss_frame : s.changesOnly s.endFeedLoss [.faces, .notices] := by
  unfold State.endFeedLoss
  exact .ite (((s.removeOn_frame _ _).mono (by decide)).trans ((State.post_frame _).mono (by decide))) .refl

theorem State.loseFeed_frame : s.changesOnly s.loseFeed [.faces, .stamps, .engine, .notices] := by
  unfold State.loseFeed; exact (((s.raiseOn_frame _ _).mono (by decide)).trans ((State.post_frame _).mono (by decide))).trans
    ((State.overrideReports_frame s).mono (by decide))

theorem State.postApproach_frame (i : InputId) (e : ApproachEvent) : s.changesOnly (s.postApproach i e) [.notices] :=
  s.post_frame _

theorem State.raiseInput_frame (i : InputId) : s.changesOnly (s.raiseInput i) [.faces, .stamps] := s.raiseOn_frame _ _

/-- The blocks that raising or ending an approach entry touches, before its reports. -/
def inputBlocks : List Block := [.faces, .stamps, .approach, .notices]

theorem State.endInput_frame (i : InputId) (why : ApproachReason) : s.changesOnly (s.endInput i why) inputBlocks := by
  unfold State.endInput; exact (((s.removeOn_frame _ _).mono (by decide)).trans ((State.modInput_frame _ _).mono (by decide))).trans
    ((State.postApproach_frame _ _).mono (by decide))

theorem State.raised_frame (i : InputId) (g : Approach → Approach) (e : ApproachEvent) :
    s.changesOnly (((s.raiseInput i).modInput i g).postApproach i e) inputBlocks :=
  (((s.raiseInput_frame i).mono (by decide)).trans ((State.modInput_frame _ _).mono (by decide))).trans
    ((State.postApproach_frame _ _).mono (by decide))

theorem State.lowEdge_frame (i : InputId) (rising : Bool) : s.changesOnly (s.lowEdge i rising) inputBlocks := by
  unfold State.lowEdge
  dsimp only
  split
  · exact s.raised_frame i _ _
  · exact .refl
  · exact .ite (s.endInput_frame i _) ((s.modInput_frame i _).mono (by decide))
  · exact .refl
  · exact (s.modInput_frame i _).mono (by decide)
  · exact .refl

theorem State.qualifyingEdge_frame (i : InputId) : s.changesOnly (s.qualifyingEdge i) inputBlocks := by
  unfold State.qualifyingEdge; split
  · exact s.raised_frame i _ _
  · exact (s.modInput_frame i _).mono (by decide)

theorem State.edge_frame (i : InputId) (rising : Bool) : s.changesOnly (s.edge i rising) inputBlocks := by
  unfold State.edge
  split
  · exact .refl
  · exact s.lowEdge_frame i rising
  · exact .ite (s.qualifyingEdge_frame i) .refl
  · exact .ite .refl (s.qualifyingEdge_frame i)
  · exact s.qualifyingEdge_frame i

/-! ### Panel supervisor -/

/-- The blocks a change of panel state touches. -/
def panelBlocks : List Block := [.faces, .engine, .link, .notices]

theorem State.setMode_frame (f : FaceId) (m : PanelMode) (c : Cause) :
    s.changesOnly (s.setMode f m c) [.faces, .notices] := by
  unfold State.setMode; exact ((s.modPanel_frame f _).mono (by decide)).trans ((State.post_frame _).mono (by decide))

theorem State.dropMessages_frame (f : FaceId) : s.changesOnly (s.dropMessages f) [.link] := by
  unfold State.dropMessages; exact (s.withdraw_frame _).trans (State.disown_frame _)

theorem State.endTail_frame (f : FaceId) : s.changesOnly (s.endTail f) [.link, .faces] := by
  unfold State.endTail; exact (((s.withdraw_frame _).trans (State.disown_frame _)).mono (by decide)).trans
    ((State.modPanel_frame _ _).mono (by decide))

theorem State.startWake_frame (f : FaceId) : s.changesOnly (s.startWake f) panelBlocks := by
  unfold State.startWake; exact (((s.endTail_frame f).mono (by decide)).trans ((State.modPanel_frame _ _).mono (by decide))).trans
    ((State.setMode_frame _ _ _).mono (by decide))

theorem State.leaveLive_frame (f : FaceId) : s.changesOnly (s.leaveLive f) settleBlocks := by
  unfold State.leaveLive; exact (((State.changesOnly.ite s.release_frame .refl).trans ((State.withdraw_frame _).mono (by decide))).trans
    ((State.disown_frame _).mono (by decide))).trans ((State.modFace_frame _ _).mono (by decide))

theorem State.retire_frame (f : FaceId) (c : Cause) : s.changesOnly (s.retire f c) panelBlocks := by
  unfold State.retire; split
  · exact ((((s.leaveLive_frame f).mono (by decide)).trans ((State.setMode_frame _ _ _).mono (by decide))).trans
      ((State.ask_frame _).mono (by decide))).trans ((State.ask_frame _).mono (by decide))
  · exact .refl

theorem State.removePanel_frame (f : FaceId) : s.changesOnly (s.removePanel f) panelBlocks := by
  unfold State.removePanel; exact ((((State.changesOnly.ite (s.leaveLive_frame f) .refl).mono (by decide)).trans
    ((State.dropMessages_frame f).mono (by decide))).trans ((State.modPanel_frame _ _).mono (by decide))).trans
    ((State.setMode_frame _ _ _).mono (by decide))

theorem State.judgeReport_frame (f : FaceId) : s.changesOnly (s.judgeReport f) [.faces, .notices] := by
  unfold State.judgeReport; exact .ite (((s.modFace_frame _ _).mono (by decide)).trans ((State.post_frame _).mono (by decide))) .refl

theorem State.becomeLive_frame (f : FaceId) (g : Geometry) : s.changesOnly (s.becomeLive f g) panelBlocks := by
  unfold State.becomeLive; exact ((((((s.dropMessages_frame f).mono (by decide)).trans ((State.modFace_frame _ _).mono (by decide))).trans
    ((State.modFace_frame _ _).mono (by decide))).trans ((State.startAreas_frame _).mono (by decide))).trans
    ((State.judgeReport_frame _).mono (by decide))).trans ((State.post_frame _).mono (by decide))

theorem State.askOnce_frame (f : FaceId) (k : SupKind) : s.changesOnly (s.askOnce f k) [.link] := by
  unfold State.askOnce; exact .ite .refl (s.ask_frame _)

/-! ### The service table -/

theorem State.tableChanged_frame (before : State) : s.changesOnly (s.tableChanged before) [.order, .faces, .engine] := by
  unfold State.tableChanged
  exact .ite (s.reorder_frame.mono (by decide))
    ((s.reorder_frame.mono (by decide)).trans ((State.report_frame _).mono (by decide)))

/-- The blocks a service leaves: its slot, its cells, its references. -/
def departBlocks : List Block := [.services, .freeCells, .places, .notices]

theorem State.removeService_frame (v : Service) : s.changesOnly (s.removeService v) departBlocks := by
  intro b n; cases b <;> first | rfl | exact absurd (by decide) n

theorem State.expireService_frame (v : Service) : s.changesOnly (s.expireService v) departBlocks := by
  unfold State.expireService; exact (s.removeService_frame v).trans ((State.post_frame _).mono (by decide))

theorem State.expireAll_frame : s.changesOnly s.expireAll departBlocks := by
  unfold State.expireAll; exact .foldl _ (fun _ v => State.expireService_frame v) _

theorem State.expiryCheck_frame :
    s.changesOnly s.expiryCheck (departBlocks ++ [.order, .faces, .engine]) := by
  unfold State.expiryCheck; exact s.expireAll_frame.append (State.tableChanged_frame s)

theorem State.dueReports_frame (p : Nat) : s.changesOnly (s.dueReports p) [.faces, .engine] := by
  unfold State.dueReports; exact s.reports_frame _

/-! ### Good frames -/

/-- The first two steps of a good frame touch the feed-loss entries, the notice queue and the port (R187). -/
theorem State.beginGoodFrame_frame : s.changesOnly s.beginGoodFrame [.faces, .notices, .port] := by
  unfold State.beginGoodFrame; exact ((s.endFeedLoss_frame.mono (by decide)).trans ((State.port_frame _).mono (by decide))).trans
    ((State.port_frame _).mono (by decide))

theorem State.closeFrame_frame (a : State) (taken : Bool) : s.changesOnly (a.closeFrame s taken) settleBlocks := by
  have h := (State.overrideReports_frame (s := s) a).mono (cs := settleBlocks) (by decide)
  unfold State.closeFrame; exact .ite (h.trans State.settle_frame) h

theorem State.pendReply_frame (k : Nat) (a : Answer) : s.changesOnly (s.pendReply k a) [.port] := s.port_frame _

end Sys2Proof.Machine
end

