-- ==== Sys2Proof/Laws/FaceFrame.lean ====
section
/-! SUPPORT. Frames within a face: which parts of what the part holds for a face each shared operation can touch. -/

namespace Sys2Proof.Machine

open Sys2Proof

variable {x y z : Face} {s t u : State} {ps qs : List FacePart}

theorem Face.agrees.trans {p : FacePart} (h : x.agrees y p) (k : y.agrees z p) : x.agrees z p := by
  cases p
  case flags => exact fun j b => (k j b).trans (h j b)
  case clipped => exact fun j => (k j).trans (h j)
  case scrolls => exact fun j => (k j).trans (h j)
  case paging => exact ⟨k.1.trans h.1, k.2.trans h.2⟩
  all_goals exact Eq.trans k h

theorem Face.agrees.refl (p : FacePart) : x.agrees x p := by
  cases p
  case flags => exact fun _ _ => rfl
  case clipped => exact fun _ => rfl
  case scrolls => exact fun _ => rfl
  case paging => exact ⟨rfl, rfl⟩
  all_goals rfl

theorem Face.changesOnly.refl : x.changesOnly x ps := fun p _ => .refl p

theorem Face.changesOnly.mono (h : x.changesOnly y ps) (sub : ps ⊆ qs) : x.changesOnly y qs :=
  fun p n => h p fun m => n (sub m)

theorem Face.changesOnly.trans (h : x.changesOnly y ps) (k : y.changesOnly z ps) : x.changesOnly z ps :=
  fun p n => (h p n).trans (k p n)

theorem State.facesChangeOnly.refl : s.facesChangeOnly s ps := fun _ => .refl

theorem State.facesChangeOnly.mono (h : s.facesChangeOnly t ps) (sub : ps ⊆ qs) : s.facesChangeOnly t qs :=
  fun f => (h f).mono sub

theorem State.facesChangeOnly.trans (h : s.facesChangeOnly t ps) (k : t.facesChangeOnly u ps) :
    s.facesChangeOnly u ps :=
  fun f => (h f).trans (k f)

theorem State.facesChangeOnly.ite {c : Prop} [Decidable c] (h : s.facesChangeOnly t ps) (k : s.facesChangeOnly u ps) :
    s.facesChangeOnly (if c then t else u) ps := by split <;> assumption

theorem State.facesChangeOnly.foldl {α : Type} (act : State → α → State)
    (h : ∀ (s : State) a, s.facesChangeOnly (act s a) ps) (l : List α) : s.facesChangeOnly (l.foldl act s) ps := by
  induction l generalizing s with
  | nil => exact .refl
  | cons a l ih => exact (h s a).trans ih

/-- An update that leaves every face alone. -/
theorem State.facesChangeOnly.of_faces (h : t.faces = s.faces) : s.facesChangeOnly t ps := by
  intro f
  have : t.face f = s.face f := congrArg (fun q => q.get f) h
  exact this ▸ .refl

/-- An update of every face, part by part. -/
theorem State.mapFaces_parts {g : FaceId → Face → Face} (h : ∀ f, (s.face f).changesOnly (g f (s.face f)) ps) :
    s.facesChangeOnly (s.mapFaces g) ps := by
  intro f; rw [State.mapFaces_face]; exact h f

/-- An update of one face, part by part. -/
theorem State.modFace_parts {f : FaceId} {g : Face → Face} (h : (s.face f).changesOnly (g (s.face f)) ps) :
    s.facesChangeOnly (s.modFace f g) ps := by
  intro k; rw [State.modFace_face]; split
  · subst k; exact h
  · exact .refl

/-- An update of one face leaves the others. -/
theorem State.modFace_others (f : FaceId) (g : Face → Face) : s.othersChangeOnly (s.modFace f g) f [] := by
  intro k n; rw [State.modFace_face_other s g n]; exact .refl

/-! ### Requests and grants -/

theorem Face.request_parts (r : Request) :
    x.changesOnly { x with record := { x.record with request := r } } [.request] := by
  intro p n; cases p <;>
    first | rfl | exact ⟨rfl, rfl⟩ | exact fun _ => rfl | exact fun _ _ => rfl | exact absurd (by decide) n

theorem State.raiseRequests_parts : s.facesChangeOnly s.raiseRequests [.request] :=
  State.mapFaces_parts fun f => by
    split
    · exact Face.request_parts _
    · exact .refl

theorem State.grant_parts (f : FaceId) : s.facesChangeOnly (s.grant f) [.request] :=
  (State.modFace_parts (f := f) (Face.request_parts .granted) :
    s.facesChangeOnly (s.modFace f fun x => { x with record := { x.record with request := .granted } }) [.request])

theorem State.grantNext_parts : s.facesChangeOnly s.grantNext [.request] := by
  unfold State.grantNext; split
  · exact s.grant_parts _
  · exact .refl

theorem State.settle_parts : s.facesChangeOnly s.settle [.request] := by
  unfold State.settle
  exact (s.raiseRequests_parts.trans State.grantNext_parts).trans
    (.of_faces (State.giveTransmitter_frame .faces (by decide)))

theorem State.release_parts : s.facesChangeOnly s.release [.request] := by
  unfold State.release; split
  · exact .refl
  · rename_i r _
    exact (State.modFace_parts (f := r.face) (Face.request_parts .none) :
      s.facesChangeOnly (s.modFace r.face fun x => { x with record := { x.record with request := .none } }) [.request])

/-! ### Reports -/

theorem Line.setScroll_parts (which : LineId → Bool) (g : LineId → Scroll → Scroll) :
    x.changesOnly (x.modScrolls which g) [.scrolls] := by
  intro p n
  cases p
  case scrolls => exact absurd (by decide) n
  case flags =>
    intro j b
    simp only [Face.modScrolls, Quad.get_mapIdx]
    split <;> cases b <;> rfl
  case clipped =>
    intro j
    simp only [Face.modScrolls, Quad.get_mapIdx]
    split <;> rfl
  all_goals first | rfl | exact ⟨rfl, rfl⟩

theorem State.startAreas_parts (w : FaceId → Face → LineId → Bool) : s.facesChangeOnly (s.startAreas w) [.scrolls] :=
  State.mapFaces_parts fun _ => Line.setScroll_parts _ _

theorem State.handText_parts (w : FaceId → Face → LineId → Bool) : s.facesChangeOnly (s.handText w) [.scrolls] :=
  State.mapFaces_parts fun _ => Line.setScroll_parts _ _

theorem State.handOff_parts (c : Change) : s.facesChangeOnly (s.handOff c) [.scrolls] := by
  unfold State.handOff; exact (s.startAreas_parts _).trans (State.handText_parts _)

theorem State.rotateForOrder_parts : s.facesChangeOnly s.rotateForOrder [.rotation] :=
  State.mapFaces_parts fun f => by
    intro p n; cases p <;>
    first | rfl | exact ⟨rfl, rfl⟩ | exact fun _ => rfl | exact fun _ _ => rfl | exact absurd (by decide) n

/-- A mark clears flags and touches nothing else a face holds (R125). -/
theorem State.markStale_parts (c : Change) : s.facesChangeOnly (s.markStale c) [.flags] := by
  intro f p n
  have e : (s.markStale c).face f =
      { s.face f with
        lines := (s.face f).lines.mapIdx fun j l => if s.marks c f (s.face f) j then l.stale else l } :=
    Quad.get_mapIdx _ _ _
  rw [e]
  cases p
  case flags => exact absurd (by decide) n
  case clipped =>
    intro j
    simp only [Quad.get_mapIdx]
    split <;> rfl
  case scrolls =>
    intro j
    simp only [Quad.get_mapIdx]
    split <;> rfl
  all_goals first | rfl | exact ⟨rfl, rfl⟩

/-- The parts of a face a report can touch. -/
def reportParts : List FacePart := [.rotation, .scrolls, .flags]

theorem State.report_parts (c : Change) : s.facesChangeOnly (s.report c) reportParts := by
  have key (s₁ : State) (h : s.facesChangeOnly s₁ [.rotation]) :
      s.facesChangeOnly ((s₁.handOff c).markStale c) reportParts :=
    ((h.mono (by decide)).trans ((State.handOff_parts c).mono (by decide))).trans
      ((State.markStale_parts c).mono (by decide))
  unfold State.report
  cases c
  case order => exact key _ s.rotateForOrder_parts
  all_goals exact key s .refl

theorem State.reports_parts (cs : List Change) : s.facesChangeOnly (s.reports cs) reportParts := by
  unfold State.reports; exact .foldl _ (fun _ c => State.report_parts c) cs

/-! ### Override reports and the end of a good frame -/

theorem State.restartPage_parts (f : FaceId) : s.facesChangeOnly (s.restartPage f) [.paging] :=
  State.modFace_parts (by
    intro p n; cases p <;>
      first | rfl | exact fun _ => rfl | exact fun _ _ => rfl | exact absurd (by decide) n)

theorem State.modBright_parts (f : FaceId) (g : Brightness → Brightness) : s.facesChangeOnly (s.modBright f g) [.bright] :=
  State.modFace_parts (by
    unfold Face.modBright
    dsimp only
    intro p n; split <;> cases p <;>
      first | rfl | exact ⟨rfl, rfl⟩ | exact fun _ => rfl | exact fun _ _ => rfl | exact absurd (by decide) n)

/-- The parts of a face the reports of an override event can touch (R153). -/
def overrideParts : List FacePart := [.rotation, .scrolls, .flags, .paging, .bright]

theorem State.overrideReport_parts (before : State) (f : FaceId) :
    s.facesChangeOnly (State.overrideReport before s f) overrideParts := by
  have h₁ : s.facesChangeOnly ((s.restartPage f).report (.override f)) overrideParts :=
    ((s.restartPage_parts f).mono (by decide)).trans ((State.report_parts _).mono (by decide))
  have h₂ := State.facesChangeOnly.ite (c := s.shownOverride f ≠ before.shownOverride f) h₁ .refl
  have h₃ := State.facesChangeOnly.ite (c := s.heldNotice f ≠ before.heldNotice f)
    (h₂.trans ((State.report_parts (.notice f)).mono (by decide))) h₂
  exact .ite (h₃.trans ((State.modBright_parts _ _).mono (by decide))) h₃

theorem State.overrideReports_parts (before : State) : s.facesChangeOnly (s.overrideReports before) overrideParts := by
  unfold State.overrideReports; exact .foldl _ (fun _ f => State.overrideReport_parts before f) _

theorem State.closeFrame_parts (a : State) (taken : Bool) :
    s.facesChangeOnly (a.closeFrame s taken) (.request :: overrideParts) := by
  have h := (State.overrideReports_parts (s := s) a).mono (qs := .request :: overrideParts) (by decide)
  unfold State.closeFrame; exact .ite (h.trans (State.settle_parts.mono (by decide))) h

/-- A good frame that changed no current override, no notice and no level-3 state changes request states alone at its end. -/
theorem State.closeFrame_quiet {a : State} (taken : Bool) (o : ∀ f, s.shownOverride f = a.shownOverride f)
    (n : ∀ f, s.heldNotice f = a.heldNotice f) (l : ∀ f, s.level3 f = a.level3 f) :
    a.closeFrame s taken = if a.feedHeld || taken then s.settle else s := by
  simp [State.closeFrame, State.overrideReports_none o n l]

theorem State.tableChanged_parts (before : State) : s.facesChangeOnly (s.tableChanged before) reportParts := by
  unfold State.tableChanged
  have h : s.facesChangeOnly s.reorder reportParts := .of_faces rfl
  exact .ite h (h.trans (State.report_parts _))

/-! ### Causes that no area takes -/

theorem Face.modScrolls_none (g : LineId → Scroll → Scroll) : x.modScrolls (fun _ => false) g = x := rfl

/-- A cause that starts no area and hands no text leaves every area. -/
theorem State.handOff_rotation (f : FaceId) : s.handOff (.rotation f) = s := rfl
theorem State.handOff_override (f : FaceId) : s.handOff (.override f) = s := rfl
theorem State.handOff_face (f : FaceId) : s.handOff (.face f) = s := rfl
theorem State.handOff_scrollStep (f : FaceId) (j : LineId) : s.handOff (.scrollStep f j) = s := rfl
theorem State.handOff_restartContent : s.handOff .restartContent = s := rfl

/-- The reports of such causes only mark lines stale. -/
theorem State.report_rotation (f : FaceId) : s.report (.rotation f) = s.markStale (.rotation f) := rfl
theorem State.report_override (f : FaceId) : s.report (.override f) = s.markStale (.override f) := rfl
theorem State.report_face (f : FaceId) : s.report (.face f) = s.markStale (.face f) := rfl
theorem State.report_scrollStep (f : FaceId) (j : LineId) :
    s.report (.scrollStep f j) = s.markStale (.scrollStep f j) := rfl

end Sys2Proof.Machine
end

