-- ==== Sys2Proof/Laws/Port.lean ====
section
/-! SUPPORT. What a request frame can do: the frames that are not carried out, the first two steps of a good frame, and the
answer of a request that is carried out. -/

namespace Sys2Proof.Machine

open Sys2Proof

variable {s : State} {kind addr : Nat}

theorem State.admit_none (h : s.takesFrame addr = true) : s.judgeFrame addr = none := by
  simp only [State.takesFrame, Bool.and_eq_true, bne_iff_ne, ne_eq, Option.isNone_iff_eq_none] at h
  simp [State.judgeFrame, h.1.1, h.1.2, h.2]

/-- A request frame that is a good frame is carried out after its first two steps. -/
theorem State.request_taken (h : s.takesFrame addr = true) (act : State → State × Answer) :
    s.request kind addr act = s.finish kind addr (act s.beginGoodFrame) := by
  simp [State.request, State.admit_none h]

theorem State.inquiry_taken (h : s.takesFrame addr = true) (n : addr ≠ 0) (act : State → State × Answer) :
    s.inquiry kind addr act =
      (s.closeFrame (act s.beginGoodFrame).1 false).pendReply kind (act s.beginGoodFrame).2 := by
  simp [State.inquiry, State.admit_none h, n]

theorem State.endFeedLoss_port : s.endFeedLoss.port = s.port := State.endFeedLoss_frame .port (by decide)

theorem State.endFeedLoss_timing : s.endFeedLoss.timing = s.timing := State.endFeedLoss_frame .timing (by decide)

theorem State.beginGoodFrame_port :
    s.beginGoodFrame.port =
      { s.port with receiver := .idle, silence := .running s.timing.silenceLimit } := by
  simp [State.beginGoodFrame, State.endFeedLoss_port, State.endFeedLoss_timing]

theorem State.beginGoodFrame_timing : s.beginGoodFrame.timing = s.timing :=
  State.beginGoodFrame_frame .timing (by decide)

theorem State.finish_eq (u : State) (a : Answer) :
    s.finish kind addr (u, a) =
      if addr = 0 then s.closeFrame u a.result.taken else (s.closeFrame u a.result.taken).pendReply kind a := rfl

theorem State.finish_notices (u : State) (a : Answer) : (s.finish kind addr (u, a)).notices = u.notices := by
  have h := State.closeFrame_frame (s := u) s a.result.taken .notices (by decide)
  rw [State.finish_eq]; split <;> exact h

/-- The end of a request: it touches the port beside what the end of an event touches. -/
theorem State.finish_frame (u : State) (a : Answer) :
    u.changesOnly (s.finish kind addr (u, a)) (.port :: settleBlocks) := by
  have h := State.closeFrame_frame (s := u) s a.result.taken
  rw [State.finish_eq]; split
  · exact h.mono (by decide)
  · exact (h.mono (by decide)).trans ((State.pendReply_frame _ _).mono (by decide))

theorem State.finish_parts (u : State) (a : Answer) :
    u.facesChangeOnly (s.finish kind addr (u, a)) (.request :: overrideParts) := by
  have h := State.closeFrame_parts (s := u) s a.result.taken
  rw [State.finish_eq]; split
  · exact h
  · exact h.trans (.of_faces rfl)

/-- The port after a request whose block left the port as the good frame's first steps did (R187, R189, R190). -/
theorem State.finish_answered (h : s.takesFrame addr = true) (u : State) (a : Answer)
    (p : u.port = s.beginGoodFrame.port) : s.answered (s.finish kind addr (u, a)) kind addr a.result a.fields := by
  have hp : (s.closeFrame u a.result.taken).port = u.port :=
    State.closeFrame_frame (s := u) s a.result.taken .port (by decide)
  have hn : (s.closeFrame u a.result.taken).notices = u.notices :=
    State.closeFrame_frame (s := u) s a.result.taken .notices (by decide)
  have hr : s.port.reply = none := by
    simp only [State.takesFrame, Bool.and_eq_true, Option.isNone_iff_eq_none] at h; exact h.2
  unfold State.answered
  rw [State.finish_eq]
  by_cases z : addr = 0
  · simp [z, hp, p, State.beginGoodFrame_port]
  · simp [z, hp, p, State.beginGoodFrame_port]

end Sys2Proof.Machine
end

