-- ==== Sys2Proof/Laws/Refusals.lean ====
section
/-! SUPPORT. What a refused PLACE can report, and what RESTART ALL leaves of a shutdown tail. -/

namespace Sys2Proof.Machine

open Sys2Proof

/-- The position found is that of the first entry that fails the check. -/
theorem firstFailing_some {ps : List RawPlace} {ok : RawPlace → Bool} {p : Nat} (h : firstFailing ps ok = some p) :
    ∃ i q, p = i + 1 ∧ ps[i]? = some q ∧ ok q = false ∧ ∀ q' ∈ ps.take i, ok q' = true := by
  induction ps generalizing p with
  | nil => simp [firstFailing] at h
  | cons q qs ih =>
    rcases hq : ok q with _ | _
    · have : p = 1 := by simpa [firstFailing, hq, List.idxOf?_cons] using h.symm
      exact ⟨0, q, this, rfl, hq, by simp⟩
    · obtain ⟨n, hn, rfl⟩ : ∃ n, firstFailing qs ok = some n ∧ p = n + 1 := by
        simp only [firstFailing, List.map_cons, hq, List.idxOf?_cons, Option.map_eq_some_iff] at h ⊢
        obtain ⟨i, hi, rfl⟩ := h
        simp only [show (true == false) = false from rfl, Bool.false_eq_true, if_false, Option.map_eq_some_iff] at hi
        obtain ⟨j, hj, rfl⟩ := hi
        exact ⟨j + 1, ⟨j, hj, rfl⟩, rfl⟩
      obtain ⟨i, r, rfl, hr, hf, hall⟩ := ih hn
      exact ⟨i + 1, r, rfl, by simpa using hr, hf, by simpa [hq] using hall⟩

/-- No position is found exactly where every entry passes the check. -/
theorem firstFailing_none {ps : List RawPlace} {ok : RawPlace → Bool} :
    firstFailing ps ok = none ↔ ∀ q ∈ ps, ok q = true := by
  simp [firstFailing, List.idxOf?_eq_none_iff]

/-- Step 1 reports a position from 1 to 4 (R49). -/
theorem shapePositions_range {ps : List RawPlace} {p : Nat} (h : p ∈ shapePositions ps) : 1 ≤ p ∧ p ≤ 4 := by
  unfold shapePositions at h
  split at h
  · rename_i n hn
    obtain ⟨i, q, rfl, hq, -⟩ := firstFailing_some hn
    have := (List.getElem?_eq_some_iff.mp hq).1
    simp only [List.mem_singleton] at h
    simp only [List.length_take] at this
    omega
  · simp at h; omega

theorem shapePositions_ne_nil (ps : List RawPlace) : shapePositions ps ≠ [] := by
  unfold shapePositions; split <;> simp

/-- The entries that gave a colliding code, by the id each gave it to (R49, step 3). -/
theorem mem_collidingPositions {ps : List RawPlace} {dict : List PlaceEntry} {i : Nat} :
    i ∈ collidingPositions ps dict ↔
      (1 ≤ i ∧ i < 1 + ps.length) ∧
        ∃ d ∈ dict, givesAt ps d.id = i ∧ ∃ e ∈ dict, d.id ≠ e.id ∧ d.code = e.code := by
  simp [collidingPositions]

theorem collidingPositions_ascending (ps : List RawPlace) (dict : List PlaceEntry) :
    (collidingPositions ps dict).Pairwise (· < ·) :=
  (List.pairwise_lt_range' 1 (by decide)).filter _

/-- Step 3 reports an entry that gave a colliding code and, where several did, one that is the later of two (R49). -/
theorem mem_duplicatePositions {ps : List RawPlace} {dict : List PlaceEntry} {p : Nat} :
    p ∈ duplicatePositions ps dict ↔
      p ∈ collidingPositions ps dict ∧
        ((∃ k ∈ collidingPositions ps dict, k ≠ p) → ∃ k ∈ collidingPositions ps dict, k < p) := by
  have h := collidingPositions_ascending ps dict
  unfold duplicatePositions
  generalize collidingPositions ps dict = is at h ⊢
  match is, h with
  | [], _ => simp
  | [i], _ => simp only [List.mem_singleton, exists_eq_left]; exact ⟨fun e => ⟨e, fun n => (n e.symm).elim⟩, And.left⟩
  | i :: j :: rest, h =>
    have hi : ∀ k ∈ j :: rest, i < k := fun _ => List.rel_of_pairwise_cons h
    refine ⟨fun hp => ⟨List.mem_cons_of_mem _ hp, fun _ => ⟨i, List.mem_cons_self, hi _ hp⟩⟩, fun ⟨hp, hk⟩ => ?_⟩
    rcases List.mem_cons.1 hp with rfl | hp
    · obtain ⟨k, hk, hlt⟩ := hk ⟨j, by simp, fun e => absurd (hi j (by simp)) (by omega)⟩
      rcases List.mem_cons.1 hk with rfl | hk
      · omega
      · have := hi k hk; omega
    · exact hp

/-- A refusal with one position leaves the state; one with several leaves all but the draws and reports one of them. -/
theorem State.refusePlace_spec (s : State) (r : Result) {ps : List Nat} (h : ps ≠ []) :
    ∃ p ∈ ps, (s.refusePlace r ps).2 = ⟨r, .placeRefused p⟩ ∧
      s.changesOnly (s.refusePlace r ps).1 [.draws] ∧ (∀ q, ps = [q] → p = q ∧ (s.refusePlace r ps).1 = s) := by
  match ps, h with
  | [q], _ => exact ⟨q, by simp, rfl, fun b _ => by cases b <;> rfl, fun x hx => by simp at hx; exact ⟨hx, rfl⟩⟩
  | q :: q' :: qs, _ =>
    have hlt := Nat.mod_lt (Config.placeChoice s.draws) (show 0 < (q :: q' :: qs).length by simp)
    exact ⟨_, List.getElem_mem hlt, by rw [State.refusePlace, List.getElem?_eq_getElem hlt, Option.getD_some]; simp,
      fun b hb => by cases b <;> first | rfl | exact absurd (by simp) hb, fun x hx => by simp at hx⟩

/-- A tail is left to LIVE, RETIRING and UNBOUND faces alone (R182). -/
theorem State.tailAfter_none {s : State} {f : FaceId}
    (h : (s.face f).panel.mode = .waking ∨ (s.face f).panel.mode = .off ∨ (s.face f).panel.mode = .faulted ∨
      (s.face f).panel.mode = .absent) : s.tailAfter f = none := by
  rcases h with h | h | h | h <;> simp [State.tailAfter, h]

theorem State.tailAfter_live {s : State} {f : FaceId} (h : (s.face f).panel.mode = .live) :
    s.tailAfter f = some ⟨(s.face f).record.panelId, none⟩ := by simp [State.tailAfter, h]

theorem State.tailAfter_retiring {s : State} {f : FaceId} (h : (s.face f).panel.mode = .retiring) :
    s.tailAfter f = some (s.retiringTail f) := by simp [State.tailAfter, h]

theorem State.tailAfter_unbound {s : State} {f : FaceId} (h : (s.face f).panel.mode = .unbound) :
    s.tailAfter f = (s.face f).panel.tail := by simp [State.tailAfter, h]

end Sys2Proof.Machine
end

