-- ==== Sys2Proof/Laws/Scroll.lean ====
section
/-! SUPPORT. What starting an area and a text changed hand-off can do to a scroll state: the tables of R104 and R111 are what
`startScroll` and `changedScroll` compute. -/

namespace Sys2Proof.Machine

open Sys2Proof

theorem startsWith_iff (after : Scroll) (k : Nat) (m : Option (Nat × Nat)) :
    after.startsWith k m ↔ after = startScroll k m := by
  rcases m with _ | ⟨w, wa⟩ <;> rfl

theorem takesText_iff (before after : Scroll) (gap k : Nat) (m : Option (Nat × Nat)) :
    before.takesText after gap k m ↔ after = changedScroll gap k before m := by
  rcases m with _ | ⟨w, wa⟩
  · cases before <;> simp [Scroll.takesText, changedScroll]
  · rcases Nat.lt_or_ge wa w with h | h
    · have h' : ¬w ≤ wa := by omega
      cases before <;> simp [Scroll.takesText, changedScroll, startScroll, newPass, enterGap, h, h']
      rename_i n k₀ d
      constructor
      · intro hp
        obtain ⟨h1, h2, h3⟩ := hp _ _ _ _ _ rfl rfl rfl rfl rfl
        split
        · exact h1 ‹_›
        · split
          · exact h3 (by omega) ‹_›
          · exact h2 (by omega) ‹_›
      · rintro rfl _ _ _ _ _ rfl rfl rfl rfl rfl
        exact ⟨fun h1 => if_pos h1, fun h1 h2 => by rw [if_neg (by omega), if_neg h2],
          fun h1 h2 => by rw [if_neg (by omega), if_pos h2]⟩
    · have h' : ¬wa < w := by omega
      cases before <;> simp [Scroll.takesText, changedScroll, startScroll, h, h']

end Sys2Proof.Machine
end

