-- ==== Sys2Proof/Tests/Slice0.lean ====
section
/-! SUPPORT. Tests of the model against the manual's worked examples, ill-formed commands that the well-formedness check
refuses, and a state and operands that meet the hypotheses of each obligation. A fixture is a small change of another. -/

namespace Sys2Proof.Tests

-- One test at a time: tests elaborated side by side take a thread and its stack each.
set_option Elab.async false

open Sys2Proof Sys2Proof.Machine

/-! ### Fixtures -/

/-- After power-on, the line quiet. -/
def idle : State := State.reset.setReceiver .idle

/-- The clock VALID at 23:58:00 with PMC 2878 (01, 1.9). -/
def late : State := { idle with clock := ⟨true, 23, 58, 0, 2878, some 1000⟩ }

def town (id : Nat) (c0 c1 c2 : Nat) (full : String) (refs : Nat) : PlaceEntry := ⟨id, ⟨c0, c1, c2⟩, codes full, none, refs⟩

/-- Places 12, 31 and 47 are in the dictionary (01, 1.9). -/
def mapped : State :=
  { late with places := [town 12 65 65 65 "Colmore" 0, town 31 65 65 66 "Ashby" 0, town 47 65 65 67 "Kestle" 0] }

/-- A service at 00:20 to place 12. -/
def train (slot handle : Nat) : Service := ⟨slot, handle, 20, 2900, .onTime, ⟨12, none⟩, none, none, none, none⟩

def holding (s : State) (vs : List Service) : State := { s with services := vs, order := displayOrder vs }

/-- Two services, the first with a pattern of one entry. -/
def entry (key : Nat) (mark : Mark) : Entry := ⟨key, 12, none, .both, mark⟩
def loaded : Load := ⟨[entry 5 .calling], some 20⟩
def first : Service := { train 0 101 with active := some [entry 10 .calling], load := some loaded }
def busy : State := { holding mapped [first, train 1 102] with freeCells := 638 }

/-- A LIVE face of 160 columns and 2 lines on panel 1, HEAD above CALLS. -/
def lit : Face :=
  { Face.initial true with
    record := { FaceRecord.initial with panelId := 1, geometry := some ⟨160, 2⟩ }
    panel := { (Face.initial true).panel with mode := .live, power := true, poll := some 1000 } }

def shown : State := busy.modFace .n0 fun _ => lit

def panelIn (mode : PanelMode) (g : Panel → Panel) : State :=
  shown.modFace .n0 fun x => { x with panel := g { x.panel with mode := mode, poll := none } }

/-- A walking render of face 0 into buffer 1. -/
def walking : Render := ⟨.n0, .b1, .walking, 0, none, Quad.const false, Quad.const false, none⟩

def rendering (r : Render) (tx : Transmitter) : State :=
  { shown with engine := ⟨some r, [.n0]⟩, link := ⟨tx, [], false⟩ }

/-- What the next state of a step meets; false where it stops. -/
def after (i : Instr) (s : State) (p : State → Bool) : Bool :=
  match exec i s with
  | .next t => p t
  | _ => false

/-- The result code of the pending reply. -/
def answers (r : Result) (t : State) : Bool := (t.port.reply.map Reply.result) == some r

/-! ### Ill-formed commands -/

theorem test_wf_pins : wellFormed (.powerOnReset { resetPins with baud := 4 }) = false := by decide
theorem test_wf_address : wellFormed (.drop 32 .malformed) = false := by decide
theorem test_wf_byte : wellFormed (.time 1 (.fields ⟨256, 0, 0⟩)) = false := by decide
theorem test_wf_word : wellFormed (.drop 1 (.fields 65536)) = false := by decide
theorem test_wf_post : wellFormed (.post 1 (.fields ⟨1, ⟨0, 0⟩, 0, ⟨0, 0⟩, 1, 1, .afterReason 0 0 256 []⟩)) = false := by
  decide
theorem test_wf_amend : wellFormed (.amend 1 (.fields ⟨1, 0, ⟨0, 256⟩, 0, []⟩)) = false := by decide
theorem test_wf_calls : wellFormed (.calls 1 (.fields ⟨1, false, false, List.replicate 34 ⟨0, 0, ⟨0, 0⟩, 0, false⟩⟩)) = false := by
  decide
theorem test_wf_text : wellFormed (.place 1 (.fields [⟨1, ⟨65, 65, 65⟩, [300], []⟩])) = false := by decide
theorem test_wf_glyph : wellFormed (.glyph 1 (.fields ⟨128, 6, []⟩)) = false := by decide
theorem test_wf_key : wellFormed (.strike 1 (.fields ⟨65, 65, 256⟩)) = false := by decide
theorem test_wf_face : wellFormed (.face 1 (.fields ⟨0, none, some ⟨0, 0, 0, 256⟩, none, none, none, none⟩)) = false := by decide
theorem test_wf_points : wellFormed (.curve 1 (.fields [⟨0, 0⟩])) = false := by decide
theorem test_wf_show : wellFormed (.showNotice 1 (.fields ⟨0, List.replicate 238 65⟩)) = false := by decide +kernel
theorem test_wf_timing : wellFormed (.timing 1 (.fields ⟨none, none, some 65536, none, none, none, none, none⟩)) = false := by
  decide
theorem test_wf_kind : wellFormed (.unknownKind 1 0x11) = false := by decide
theorem test_wf_slot : wellFormed (.loadIdleTimeout 24) = false := by decide
theorem test_wf_panel : wellFormed (.ready 16 160 2) = false := by decide
theorem test_wf_ambient : wellFormed (.panelState 1 1024 false false .b0) = false := by decide

/-! ### Frames (11, R184, R198) -/

/-- The check value that R184 gives for the bytes of "123456789". -/
theorem test_check_value : crc16 ((codes "123456789").map (BitVec.ofNat 8)) = 0x29B1#16 := by decide +kernel

/-- TIME 14:21:09 to controller 5: marker, address byte, kind 0x11, length 3, body (R184, R198). -/
theorem test_frame_bytes :
    (encodeFrame (.time 5 (.fields ⟨14, 21, 9⟩))).map (List.take 7) =
      some [0xC3#8, 0x05#8, 0x11#8, 0x03#8, 14#8, 21#8, 9#8] := by decide +kernel

/-- A frame written out for DIM, mask 3, MANUAL, level 26, is received as DIM_MANUAL; a flipped body bit is a check error. -/
theorem test_frame_received :
    receiveFrame 5 ([0xC3#8, 0x05#8, 0x20#8, 0x03#8, 0x03#8, 0x00#8, 0x1A#8] ++
      u16 (crc16 [0x05#8, 0x20#8, 0x03#8, 0x03#8, 0x00#8, 0x1A#8]).toNat) =
      some (.dimManual 5 (.fields ⟨3, 26⟩), []) := by decide +kernel
theorem test_frame_corrupted :
    receiveFrame 5 ([0xC3#8, 0x05#8, 0x20#8, 0x03#8, 0x02#8, 0x00#8, 0x1A#8] ++
      u16 (crc16 [0x05#8, 0x20#8, 0x03#8, 0x03#8, 0x00#8, 0x1A#8]).toNat) = some (.frameCheckError, []) := by
  decide +kernel

/-! ### The service table (01, 1.9) -/

/-- POST 101 at 23:59, ON_TIME, to 12: slot 0 and `sched_abs` 2879. -/
theorem test_post_across_midnight :
    after (.post 1 (.fields ⟨101, ⟨23, 59⟩, 0, ⟨255, 255⟩, 1, 12, .afterDest1⟩)) mapped (fun t =>
      answers .done t && t.services.map Service.schedAbs == [2879] && t.order == [0]) = true := by decide +kernel
/-- POST 105 at 22:30, ON_TIME, is 88 minutes past and refused with RANGE; DELAYED it is stored. -/
theorem test_post_range :
    after (.post 1 (.fields ⟨105, ⟨22, 30⟩, 0, ⟨255, 255⟩, 1, 12, .afterDest1⟩)) mapped (answers .range) = true ∧
    after (.post 1 (.fields ⟨105, ⟨22, 30⟩, 2, ⟨255, 255⟩, 1, 12, .afterDest1⟩)) mapped (answers .done) = true := by
  decide +kernel
/-- AMEND of a service scheduled at 00:05 to EXPECTED 00:12 gives `exp_abs` 2892. -/
theorem test_amend_expected :
    after (.amend 1 (.fields ⟨102, 1, ⟨0, 12⟩, 0, []⟩)) (holding mapped [{ train 1 102 with sched := 5, schedAbs := 2885 }])
      (fun t => t.services.map Service.state == [.expected 12 2892]) = true := by decide +kernel
/-- At 00:01, PMC 2881, the service of 23:59 is two minutes past and expires. -/
theorem test_rollover_expires :
    after .clockSecond { holding mapped [{ train 0 101 with sched := 1439, schedAbs := 2879 }] with
        clock := ⟨true, 0, 0, 59, 2880, some 1000⟩ }
      (fun t => t.services == [] && t.notices == [.serviceExpired 0 101 1439] && t.clock.pmc == 2881) = true := by
  decide +kernel
theorem test_time_sets :
    after (.time 1 (.fields ⟨23, 58, 0⟩)) idle (fun t => t.clock.pmc == 2878 && t.clock.valid) = true := by decide +kernel
theorem test_drop_returns_cells :
    after (.drop 1 (.fields 101)) busy (fun t => t.freeCells == 640 && t.order == [1]) = true := by decide +kernel
theorem test_read_unknown : after (.read 1 (.fields ⟨0, 999⟩)) busy (answers .unknown) = true := by decide +kernel

/-! ### Patterns, places, strikes (02 to 04) -/

/-- A close strikes the CALLING entries that match and leaves LISTED ones (R41). -/
theorem test_calls_end :
    after (.calls 1 (.fields ⟨102, true, true, [⟨10, 12, ⟨14, 8⟩, 0, false⟩, ⟨20, 31, ⟨255, 255⟩, 0, true⟩]⟩))
      { busy with strikes := [⟨1, ⟨65, 63, 65⟩, false⟩] }
      (fun t => t.services.map Service.activeEntries ==
        [[entry 10 .calling], [⟨10, 12, some 848, .both, .strike 1⟩, ⟨20, 31, none, .both, .listed⟩]]) = true := by
  decide +kernel
theorem test_abandon :
    after (.callsAbandon 1 (.fields ⟨101, false, false, []⟩)) busy (fun t =>
      t.services.map Service.pendingEntries == [[], []] && t.freeCells == 639) = true := by decide +kernel
theorem test_load_idle :
    after (.loadIdleTimeout 0) busy (fun t => t.notices == [.patternLost 0 101]) = true := by decide +kernel
theorem test_list_window :
    after (.list 1 (.fields ⟨101, 0, 48⟩)) busy (answers .range) = true := by decide +kernel
def place (id : Nat) (full : Text) : RawPlace := ⟨id, ⟨65, 66, 67 + id⟩, full, []⟩

/-- PLACE names the entry at fault: the second has no name (R49). -/
theorem test_place_position :
    after (.place 1 (.fields [place 1 [65], place 2 []])) mapped (fun t =>
      t.port.reply.map Reply.fields == some (.placeRefused 2)) = true := by decide +kernel
/-- A count above 4 names the first carried entry that fails step 1, and so does a body that breaks off (R49). -/
theorem test_place_count_names_the_fault :
    after (.place 1 (.fields [place 1 [65], place 2 [65], place 3 [], place 4 [65], place 5 [65]])) mapped (fun t =>
      t.port.reply.map Reply.fields == some (.placeRefused 3)) = true ∧
    after (.place 1 (.broken [place 1 []])) mapped (fun t =>
      t.port.reply.map Reply.fields == some (.placeRefused 1)) = true := by decide +kernel
theorem test_unplace :
    after (.unplace 1 (.fields 31)) mapped (fun t => t.places.map PlaceEntry.id == [12, 47]) = true := by decide +kernel
/-- Columns at or beyond the advance are stored unlit (R58). -/
theorem test_glyph_masked :
    after (.glyph 1 (.fields ⟨130, 3, List.replicate 16 0xFFF⟩)) idle (fun t =>
      t.glyphs[2]? == some ⟨3, List.replicate 16 0xE00#12⟩) = true := by decide +kernel
theorem test_strike_busy :
    after (.strike 1 (.fields ⟨69, 87, 63⟩)) { mapped with scan := some ⟨.strike, 1, 5, 0, 0⟩ } (answers .busy) = true := by
  decide +kernel
/-- A RESTORE hands an entry to the lowest ACTIVE strike that matches (R66). -/
theorem test_restore_visit :
    after .scanVisit
      { holding mapped [{ train 0 101 with active := some [entry 10 (.strike 1)] }] with
        strikes := [⟨1, ⟨65, 65, 65⟩, true⟩, ⟨2, ⟨65, 63, 63⟩, false⟩], scan := some ⟨.restore, 1, 0, 0, 0⟩ }
      (fun t => t.services.map Service.activeEntries == [[entry 10 (.strike 2)]] && t.scan == some ⟨.restore, 1, 1, 1, 1⟩) =
      true := by decide +kernel
theorem test_restore_unknown : after (.restore 1 (.fields 3)) mapped (answers .unknown) = true := by decide +kernel

/-! ### Texts and columns (03 to 06) -/

/-- The measures worked in 03, 3.7. -/
theorem test_measures :
    [codes "Due", codes "On time", codes "Exp 14:31", codes "Farrow Bridge", codes "Calling at Ashby and Colmore."].map
      (measure initialGlyphs) = [21, 42, 52, 87, 173] := by decide +kernel
/-- A text of 160 glyphs of advance 12 measures 2079 (R59). -/
theorem test_measure_long : measure [⟨12, []⟩] (List.replicate 160 128) = 2079 := by decide +kernel
/-- Step intervals and waits (R105, R106). -/
theorem test_intervals : [8, 30, 64, 100, 120].map stepInterval = [500, 133, 63, 40, 33] := by decide
theorem test_waits : [1, 2, 3].map (stepWait 133) = [67, 66, 67] := by decide
/-- The wraps worked in 06, 6.7. -/
theorem test_wrap :
    wrapText initialGlyphs 96 (codes "Stand back. Fast train approaching platform 4") =
      [codes "Stand back.", codes "Fast train", codes "approaching", codes "platform 4"] := by decide +kernel
theorem test_wrap_split :
    wrapText initialGlyphs 80 (codes "Kestle-Farrow closed") = [codes "Kestle-Farro", codes "w closed"] := by decide +kernel
/-- The clipped destination worked in 06, 6.4. -/
theorem test_clipped :
    fitDestination initialGlyphs 114 (codes "Holme Cross & Farrow Bridge") (codes "Holme Cr & Farrow Br") =
      (codes "Holme Cr & Farrow", true) := by decide +kernel
/-- A calling text in the shape of 05, 5.9: shared run, then the front and the rear tail. -/
theorem test_calling_text :
    mapped.callingText true
      { train 0 205 with front := ⟨12, some 4⟩, rear := some ⟨31, none⟩ }
      [⟨10, 47, some 848, .both, .calling⟩, ⟨20, 12, none, .both, .strike 1⟩, ⟨30, 31, some 871, .first, .calling⟩] =
    codes "Calling at Kestle (14:08). Front 4 coaches for Colmore, calling at Ashby (14:31) and Colmore. Rear portion for Ashby, non-stop." := by
  decide +kernel
/-- The idle text on a face of 160 columns and on one of 81 (R100). -/
theorem test_centred :
    [160, 81].map (fun wl => (placeContent initialGlyphs wl .idle (.centred (codes "No services from this platform"))).1.map
      Placed.col) = [[-11], [-51]] := by decide +kernel
/-- A new text during a pass: W at most Wa ends it, n at or beyond the new D enters GAP (06, 6.5). -/
theorem test_pass_changes :
    changedScroll 1500 133 (.pass 173 160 200 133 66) (some (123, 160)) = .still 123 160 ∧
    changedScroll 1500 133 (.pass 173 160 210 133 66) (some (162, 160)) = .pass 162 160 210 133 66 ∧
    changedScroll 1500 133 (.pass 173 160 325 133 66) (some (162, 160)) = .gap 162 160 3000 := by decide

/-! ### Faces and renders (07, 08) -/

/-- FACE clamps a speed of 200 to 120 (R121). -/
theorem test_face_clamps :
    after (.face 1 (.fields ⟨0, none, none, some 200, none, none, none⟩)) idle (fun t =>
      (t.face .n0).record.speed == 120) = true := by decide +kernel
theorem test_face_binds :
    after (.face 1 (.fields ⟨2, some 6, none, none, none, none, none⟩)) idle (fun t =>
      (t.face .n2).panel.mode == .absent && t.notices == [.faceState .n2 .absent .none]) = true := by decide +kernel
theorem test_render_turn :
    after .renderTurn (rendering walking .engineTurn) (fun t =>
      (t.engine.render.map fun r => (r.walk, r.inFlight)) == some (1, some .n0)) = true := by decide +kernel
theorem test_stored :
    after (.stored 1 .b1 0) (rendering { walking with walk := 1, inFlight := some .n0, sent := addLine noLines .n0 } .free)
      (fun t => ((t.face .n0).lines.get .n0).cur1 && t.link.tx == .engineTurn) = true := by decide +kernel
theorem test_flipped :
    after (.flipped 1 .b1) (rendering { walking with phase := .flipping } .free) (fun t =>
      (t.face .n0).record.shown == .b1) = true := by decide +kernel
theorem test_render_answer_timeout :
    after .renderAnswerTimeout (rendering { walking with phase := .flipping, answer := some 5 } .free) (fun t =>
      (t.face .n0).panel.mode == .retiring && t.notices == [.faceState .n0 .retiring .noAnswer]) = true := by
  decide +kernel
theorem test_transmit_end :
    after .transmitEnd (rendering { walking with phase := .flipping } (.sending (.flip 1 .b1) (some .engine))) (fun t =>
      (t.engine.render.map Render.answer) == some (some 5)) = true := by decide +kernel
theorem test_follow_dwell :
    after (.followDwellExpiry .n0) (shown.modFace .n0 fun x => { x with rotation := ⟨0, some 6⟩ }) (fun t =>
      (t.face .n0).rotation == ⟨0, some 6⟩) = true := by decide +kernel

def scrolling (sc : Scroll) : State :=
  shown.modLine .n0 .n1 fun l => { l with cur0 := true, scroll := sc }

/-- The last step of the pass of 06, 6.5 enters GAP for 3000 periods and marks the line; the gap's end marks none. -/
theorem test_last_step :
    after (.stepTimerExpiry .n0 .n1) (scrolling (.pass 173 160 332 133 67)) (fun t =>
      ((t.face .n0).lines.get .n1).scroll == .gap 173 160 3000 && !((t.face .n0).lines.get .n1).cur0) = true := by
  decide +kernel
theorem test_gap_end :
    after (.gapTimerExpiry .n0 .n1) (scrolling (.gap 173 160 3000)) (fun t =>
      ((t.face .n0).lines.get .n1).scroll == .pass 173 160 0 133 67 && ((t.face .n0).lines.get .n1).cur0) = true := by
  decide +kernel

/-! ### Overrides (09) -/

theorem test_show_disruption :
    after (.showDisruption 1 (.fields ⟨1, [65]⟩)) shown (fun t =>
      (t.face .n0).currentOverride == some .stationDisruption && (t.face .n0).pageTimer == some 5) = true := by
  decide +kernel
theorem test_show_notice :
    after (.showNotice 1 (.fields ⟨16, []⟩)) shown (answers .range) = true := by decide +kernel
theorem test_show_fallback :
    after (.showFallback 1 (.fields ⟨0, [65]⟩)) shown (fun t => t.texts.feedLost == [65]) = true := by decide +kernel
/-- A warning stands before a disruption; when it is cleared the disruption is current again (09, 9.6). -/
def warned : State :=
  shown.modFace .n0 fun x =>
    { x with
      overrides := [⟨.stationWarning, 1⟩, ⟨.stationDisruption, 0⟩], pageTimer := some 5, warning := some 60
      bright := { x.bright with level3 := true } }
theorem test_clear_warning :
    after (.clearWarning 1 (.fields 1)) warned (fun t =>
      (t.face .n0).currentOverride == some .stationDisruption && (t.face .n0).warning == none) = true := by decide +kernel
theorem test_clear_disruption :
    after (.clearDisruption 1 (.fields 1)) warned (fun t => (t.face .n0).overrides == [⟨.stationWarning, 1⟩]) = true := by
  decide +kernel
theorem test_clear_notice :
    after (.clearNotice 1 (.fields 15)) warned (fun t => (t.face .n0).overrides == (warned.face .n0).overrides) = true := by
  decide +kernel
/-- WARN clamps its duration to 600 s (R157). -/
theorem test_warn :
    after (.warn 1 (.fields ⟨1, 601, [65]⟩)) shown (fun t =>
      (t.face .n0).warning == some 600 && (t.face .n0).bright.effective == 48) = true := by decide +kernel
theorem test_warning_expires :
    after (.warningTimerExpiry .n0) warned (fun t => !(t.face .n0).bright.level3) = true := by decide +kernel
theorem test_page_timer :
    after (.pageTimerExpiry .n0) { warned with texts := { warned.texts with warning := List.replicate 100 65 } } (fun t =>
      (t.face .n0).page == 1) = true := by decide +kernel

def input (a : Approach) : State := { shown with approach := ⟨a, shown.approach.b⟩ }
def low : Approach := { shown.approach.a with raw := true, debounced := true, sensitivity := .low }

theorem test_approach_low :
    after (.approach 1 (.fields ⟨0, 1, 1, 3, 60, []⟩)) shown (fun t =>
      (t.approach.get .a).state == .active && (t.face .n0).currentOverride == some .approachA) = true := by decide +kernel
theorem test_pin_bounces :
    after (.approachPinChange .a false) (input low) (fun t => (t.approach.get .a).debounce == some 20) = true := by
  decide +kernel
theorem test_low_edge :
    after (.debounceExpiry .a) (input { low with raw := false, debounce := some 20 }) (fun t =>
      (t.approach.get .a).state == .active && t.notices == [.approach .a .raised (Quad.const true)]) = true := by
  decide +kernel
theorem test_hold_expires :
    after (.holdTimerExpiry .a) (input { low with state := .holding, holdTimer := some 3 }) (fun t =>
      (t.approach.get .a).state == .clear) = true := by decide +kernel
theorem test_duration_expires :
    after (.durationTimerExpiry .a) (input { low with sensitivity := .rising, state := .active, durationTimer := some 60 })
      (fun t => t.notices == [.approach .a (.ended .durationExpired) (Quad.const true)]) = true := by decide +kernel
theorem test_silence :
    after .silenceExpiry shown (fun t => t.notices == [.feed false] && (t.face .n3).holds .feedLost) = true := by
  decide +kernel

/-! ### Panels and brightness (10) -/

/-- The curve values worked in 10, R179. -/
theorem test_curve_values : [0, 400, 410, 360, 1023].map (curveValue State.reset.curve) = [3, 40, 41, 38, 63] := by decide
/-- The hysteresis worked in 10, 10.8. -/
theorem test_hysteresis : hysteresis 40 41 = 41 ∧ hysteresis 38 41 = 38 ∧ hysteresis 41 38 = 41 := by decide
theorem test_power_on :
    after (.powerOn 1 (.fields 0)) (panelIn .off id) (fun t => answers .accepted t && (t.face .n0).panel.settle == some 50) =
      true := by decide +kernel
theorem test_power_off :
    after (.powerOff 1 (.fields 0)) shown (fun t => (t.face .n0).panel.mode == .retiring) = true := by decide +kernel
theorem test_dim_manual :
    after (.dimManual 1 (.fields ⟨1, 70⟩)) shown (fun t =>
      (t.face .n0).bright.target == 63 && (t.face .n0).bright.report == some 63) = true := by decide +kernel
theorem test_dim_auto :
    after (.dimAuto 1 (.fields ⟨1, 0⟩)) (shown.modPanel .n0 fun p => { p with ambient := some 410 }) (fun t =>
      (t.face .n0).bright.target == 41) = true := by decide +kernel
theorem test_curve_falls :
    after (.curve 1 (.fields (⟨1, 0⟩ :: List.replicate 7 ⟨0, 0⟩))) idle (answers .range) = true := by decide +kernel
theorem test_sense_rise :
    after (.senseRise .n0) ((panelIn .absent fun p => { p with sense := false }).modFace .n0 fun x =>
      { x with record := { x.record with autoWake := true } }) (fun t => (t.face .n0).panel.mode == .waking) = true := by
  decide +kernel
theorem test_sense_fall :
    after (.senseFall .n0) shown (fun t =>
      (t.face .n0).panel.mode == .absent && (t.face .n0).panel.cause == .removed && !(t.face .n0).panel.power) = true := by
  decide +kernel
theorem test_settle :
    after (.settleTimerExpiry .n0) (panelIn .waking fun p => { p with step := some .settling, settle := some 50 }) (fun t =>
      t.link.tx == .sending (.wake 1) (some (.face .n0))) = true := by decide +kernel
/-- A READY of width 400 is discarded, one of 256 by 3 makes the face LIVE (10, 10.7). -/
theorem test_ready :
    after (.ready 1 400 3) (panelIn .waking fun p => { p with step := some .awaitingReady }) (fun t =>
      (t.face .n0).panel.mode == .waking) = true ∧
    after (.ready 1 256 3) (panelIn .waking fun p => { p with step := some .awaitingReady }) (fun t =>
      (t.face .n0).panel.mode == .live && t.notices == [.faceState .n0 .live .none]) = true := by decide +kernel
/-- A pending report of level 0 is judged before FACE_STATE is posted (R169, steps 4 and 6). -/
theorem test_ready_reports_level_0 :
    after (.ready 1 256 3)
      ((panelIn .waking fun p => { p with step := some .awaitingReady }).modFace .n0 fun x =>
        { x with bright := { x.bright with report := some 0 } }) (fun t =>
      t.notices == [.levelReached .n0 0, .faceState .n0 .live .none] && (t.face .n0).bright.report == none) = true := by
  decide +kernel
theorem test_wake_timeout :
    after (.wakeTimerExpiry .n0) (panelIn .waking fun p => { p with step := some .awaitingReady, wake := some 400 }) (fun t =>
      (t.face .n0).panel.mode == .faulted && !(t.face .n0).panel.power) = true := by decide +kernel
theorem test_poll :
    after (.pollTimerExpiry .n0) shown (fun t => t.link.tx == .sending (.poll 1) (some (.face .n0))) = true := by
  decide +kernel
theorem test_overcurrent :
    after (.panelState 1 410 true true .b0) (shown.modPanel .n0 fun p => { p with awaiting := some 5 }) (fun t =>
      (t.face .n0).panel.cause == .overcurrent) = true := by decide +kernel
theorem test_panel_answer_limit :
    after (.panelAnswerLimit .n0) (shown.modPanel .n0 fun p => { p with awaiting := some 5 }) (fun t =>
      (t.face .n0).panel.mode == .retiring) = true := by decide +kernel
theorem test_retire_delay :
    after (.retireDelayExpiry .n0) (panelIn .retiring fun p => { p with cause := .requested, retireDelay := some 100 })
      (fun t => (t.face .n0).panel.mode == .off && !(t.face .n0).panel.power) = true := by decide +kernel
theorem test_tail_end :
    after (.shutdownTailEnd .n0) (panelIn .off fun p => { p with tail := some ⟨1, some 100⟩ }) (fun t =>
      (t.face .n0).panel.tail == none && !(t.face .n0).panel.power) = true := by decide +kernel
/-- A ramp step to the level DIM asked for posts LEVEL_REACHED and goes on to the floor (10, 10.8). -/
theorem test_ramp :
    after (.rampTimerExpiry .n0) (shown.modFace .n0 fun x => { x with bright := ⟨false, 26, true, 25, some 40, some 26⟩ })
      (fun t => t.notices == [.levelReached .n0 26] && (t.face .n0).bright == ⟨false, 26, true, 26, some 40, none⟩) = true := by
  decide +kernel

/-! ### The port and the resets (11, 11.11; 3, R3, R25) -/

theorem test_collect :
    after (.collect 1 (.fields ())) { idle with notices := [.serviceExpired 4 88 842, .faceState .n1 .waking .none] } (fun t =>
      t.port.reply == some ⟨Kind.collect, .done, 1, .notice (some (.serviceExpired 4 88 842))⟩) = true := by decide +kernel
/-- STATUS reports the feed LOST, as at the frame's arrival, and the counters before it clears them. -/
theorem test_status :
    after (.status 1 (.fields true)) ({ idle with port := { idle.port with counters := ⟨1, 0, 0, 1⟩ } }.modFace .n0 fun x =>
        { x with overrides := [⟨.feedLost, 0⟩] }) (fun t =>
      t.port.counters == Counters.zero && t.notices == [.feed true] &&
        (match t.port.reply.map Reply.fields with
          | some (.status r) => r.feedLost && r.counters == ⟨1, 0, 0, 1⟩
          | _ => false)) = true := by decide +kernel
theorem test_timing :
    after (.timing 1 (.fields ⟨none, none, some 5, none, none, none, none, none⟩)) idle (fun t =>
      t.timing.silenceLimit == 10 && t.port.silence == .running 10) = true := by decide +kernel
/-- A TIMING whose own frame ends feed loss: the disruption behind it restarts its page with the new dwell (R153, R187). -/
theorem test_timing_ends_feed_loss :
    after (.timing 1 (.fields ⟨none, none, none, none, none, none, none, some 9⟩))
      (shown.modFace .n0 fun x => { x with overrides := [⟨.feedLost, 1⟩, ⟨.stationDisruption, 0⟩], page := 1, pageTimer := some 5 })
      (fun t => (t.face .n0).page == 0 && (t.face .n0).pageTimer == some 9) = true := by decide +kernel
theorem test_unknown_kind : after (.unknownKind 1 0x29) idle (answers .format) = true := by decide +kernel
theorem test_overrun :
    after .overrun { idle with port := { idle.port with reply := some ⟨0x15, .done, 0, .none⟩ } } (fun t =>
      t.port.counters.overrun == 1) = true := by decide +kernel
theorem test_check_error :
    after .frameCheckError idle (fun t => t.port.counters.check == 1 && t.port.receiver == .hunt) = true := by decide +kernel
theorem test_length_error : after .frameLengthError idle (fun t => t.port.counters.length == 1) = true := by decide +kernel
theorem test_abort : after (.frameAbort false) idle (fun t => t.port.counters == Counters.zero) = true := by decide +kernel
theorem test_foreign : after (.foreignFrame true) idle (fun t => t.port.receiver == .hunt) = true := by decide +kernel
theorem test_quiet : after .quietTime State.reset (fun t => t == idle) = true := by decide +kernel
/-- The frame of a reply: marker, own address with bit 7 set, kind, length 2, DONE, pending count (R184, R189). -/
theorem test_reply_delay :
    after .replyDelayExpiry { idle with port := { idle.port with reply := some ⟨0x15, .done, 1, .none⟩ } } (fun t =>
      t.port.sending.map (List.take 6) == some [0xC3#8, 0x81#8, 0x15#8, 2#8, 0#8, 1#8]) = true := by decide +kernel
theorem test_reply_sent :
    after .replySent { idle with port := { idle.port with reply := some ⟨0x15, .done, 0, .none⟩, sending := some [] } } (fun t =>
      t.port.reply == none && t.port.sending == none) = true := by decide +kernel
theorem test_power_on_reset :
    after (.powerOnReset { resetPins with baud := 1, address := 5 }) shown (fun t =>
      t.port.rate == 38400 && t.port.address == 5 && t.services == [] && t.places == []) = true := by decide +kernel
theorem test_restart_all :
    after (.restartAll 1 (.fields ())) shown (fun t =>
      (t.face .n0).panel.tail == some ⟨1, none⟩ && t.places == [] && answers .done t) = true := by decide +kernel
/-- A second RESTART ALL: the face is OFF, so its output is OFF, and its tail is over (R182). -/
theorem test_restart_all_again :
    after (.restartAll 1 (.fields ())) (panelIn .off fun p => { p with tail := some ⟨1, some 40⟩ }) (fun t =>
      (t.face .n0).panel.tail == none && !(t.face .n0).panel.power) = true := by decide +kernel
theorem test_restart_content :
    after (.restartContent 1 (.fields ())) shown (fun t =>
      (t.face .n0).panel.mode == .live && t.services == [] && t.places.length == 3) = true := by decide +kernel

/-! ### Hypotheses met: for each obligation with hypotheses, a state and operands that meet them, at the ends of the ranges
that its clauses name -/

/-- The hypotheses of every obligation about a good frame, addressed and broadcast. -/
theorem witness_frame : shown.takesFrame 1 = true ∧ shown.takesFrame 0 = true := by decide +kernel

theorem busy_table : busy.TableInv := ⟨by decide +kernel, by decide +kernel, by decide +kernel, by decide +kernel⟩

theorem witness_RestartAllResets :
    (shown.face .n0).panel.mode = .live ∧ ((panelIn .retiring id).face .n0).panel.mode = .retiring ∧
      (panelIn .retiring id).takesFrame 1 = true := by decide +kernel

theorem witness_RestartContentClears :
    (shown.face .n0).live = true ∧ (shown.face .n0).hasLine .n0 = true ∧ (shown.face .n0).hasLine .n1 = true := by
  decide +kernel

theorem witness_TimeSetsTheClock :
    idle.takesFrame 1 = true ∧ idle.clock.valid = false ∧ late.takesFrame 1 = true ∧ late.clock.valid = true ∧
      23 * 60 + 58 = late.clock.minuteOfDay ∧ 0 * 60 + 0 ≠ late.clock.minuteOfDay ∧
      23 * 60 + 59 ≠ late.clock.minuteOfDay ∧ timeStep (23 * 60 + 57) late.clock.minuteOfDay ≤ 0 := by decide +kernel

def atSecond (s : State) (n : Nat) : State := { s with clock := { s.clock with seconds := n } }

theorem witness_ClockSecondAdvances :
    idle.clock.valid = false ∧ (atSecond shown 58).clock.valid = true ∧ (atSecond shown 58).clock.seconds + 1 < 60 ∧
      60 ≤ (atSecond shown 59).clock.seconds + 1 ∧ (atSecond busy 59).clock.valid = true := by decide +kernel
theorem witness_ClockSecondAdvances_notice :
    Face.showsRole { lit with record := { lit.record with roles := Quad.const .notice } } .n0 .notice :=
  ⟨by decide, by decide, by decide, by decide⟩
theorem witness_ClockSecondAdvances_table : (atSecond busy 59).TableInv :=
  ⟨by decide +kernel, by decide +kernel, by decide +kernel, by decide +kernel⟩

/-- A POST of service 103 at 00:25 in a state code, from place 12. -/
def post (handle state : Nat) : PostBody := ⟨handle, ⟨0, 25⟩, state, ⟨23, 59⟩, 1, 12, .afterDest1⟩

theorem witness_PostReadsItsFields :
    (postService late.clock (post 103 0)).isSome = true ∧ (postService late.clock (post 103 1)).isSome = true ∧
      (postService late.clock (post 103 2)).isSome = true ∧ (postService late.clock (post 103 3)).isSome = true := by
  decide +kernel

/-- All 24 slots occupied. -/
def full : State := holding mapped ((List.range 24).map fun k => train k (k + 1))

theorem witness_PostCreatesInLowestSlot :
    idle.takesFrame 1 = true ∧ idle.clock.valid = false ∧ busy.takesFrame 1 = true ∧ busy.clock.valid = true ∧
      busy.postNamesNoPlace { post 103 0 with dest1 := 13 } = true ∧ busy.postNamesNoPlace (post 103 0) = false ∧
      postService busy.clock { post 103 0 with portions := 3 } = none ∧
      (postService busy.clock (post 103 0)).isSome = true ∧ busy.handleService 103 = none ∧
      (∀ w ∈ busy.services, w.slot ≠ 2) ∧ (∀ k < 2, ∃ w ∈ busy.services, w.slot = k) ∧
      (postService busy.clock (post 103 0)).map (Service.expired busy.clock.pmc busy.timing.clearDown) = some false ∧
      (postService busy.clock { post 103 0 with sched := ⟨22, 30⟩ }).map
        (Service.expired busy.clock.pmc busy.timing.clearDown) = some true := by decide +kernel
theorem witness_PostCreatesInLowestSlot_full :
    full.takesFrame 1 = true ∧ full.clock.valid = true ∧ full.postNamesNoPlace (post 103 0) = false ∧
      full.handleService 103 = none ∧ (∀ k < 24, ∃ w ∈ full.services, w.slot = k) := by decide +kernel

theorem witness_HeadFieldsAreReplaced :
    busy.takesFrame 1 = true ∧ busy.handleService 102 = some (train 1 102) ∧
      busy.postNamesNoPlace (post 102 2) = false ∧ (postService busy.clock (post 102 2)).isSome = true ∧
      (postService busy.clock (post 102 2)).map (Service.expired busy.clock.pmc busy.timing.clearDown) = some false ∧
      (amendedService (train 1 102) ⟨102, 2, ⟨255, 255⟩, 0, []⟩).map
        (Service.expired busy.clock.pmc busy.timing.clearDown) = some false ∧
      (amendedService (train 1 102) ⟨102, 0, ⟨255, 255⟩, 1, []⟩).isSome = true ∧
      (amendedService (train 1 102) ⟨102, 0, ⟨255, 255⟩, 2, [65]⟩).isSome = true := by decide +kernel

theorem witness_DropRemovesTheService :
    busy.handleService 101 = some first ∧ busy.handleService 999 = none ∧ busy.takesFrame 1 = true := by decide +kernel

theorem witness_ReadAndListOnlyReport :
    busy.takesFrame 1 = true ∧ busy.handleService first.handle = some first ∧ first.load.isSome = true ∧
      busy.serviceAt 1 = some first ∧ (full.serviceAt 24).isSome = true := by decide +kernel

theorem witness_CallsExtendsThePending :
    busy.takesFrame 1 = true ∧ busy.handleService 101 = some first ∧ first.load.isSome = true ∧
      busy.handleService 102 = some (train 1 102) ∧ busy.openLoads < 4 ∧
      entriesOf [⟨10, 12, ⟨14, 8⟩, 0, false⟩] = some [⟨10, 12, some 848, .both, .calling⟩] ∧ busy.hasPlace 12 = true ∧
      (extendPending first.pendingEntries [⟨10, 12, some 848, .both, .calling⟩]).length ≤ 48 ∧
      (extendPending first.pendingEntries [⟨10, 12, some 848, .both, .calling⟩]).length ≤
        busy.freeCells + first.pendingEntries.length := by decide +kernel

theorem witness_LoadsAreDiscarded :
    busy.takesFrame 1 = true ∧ first.load = some loaded ∧ loaded.idle.isSome = true ∧
      busy.handleService first.handle = some first ∧ busy.slotService first.slot = some first := by decide +kernel

def entryFor (id : Nat) : RawPlace := ⟨id, ⟨90, 65 + id / 64 % 26, 65 + id % 26⟩, [65], []⟩

/-- A dictionary of 400 places. -/
def crowded : State :=
  { mapped with places := (List.range 400).map fun k => ⟨k + 1, ⟨65 + k / 26 / 26, 65 + k / 26 % 26, 65 + k % 26⟩, [65], none, 0⟩ }

theorem witness_PlaceStoresOrNamesTheFault :
    (∀ p ∈ [entryFor 1, entryFor 4095], placeFormed p = true ∧ 1 ≤ p.id ∧ p.id ≤ 4095) ∧
      sharesCode (putPlaces [entryFor 1, entryFor 4095] mapped.places) = false ∧
      (putPlaces [entryFor 1, entryFor 4095] mapped.places).length ≤ 400 ∧
      placeFormed { entryFor 2 with full := [] } = false ∧ placeIdInRange (entryFor 0) = false ∧
      placeIdInRange (entryFor 4096) = false ∧
      sharesCode (putPlaces [⟨13, ⟨65, 65, 65⟩, [65], []⟩] mapped.places) = true := by decide +kernel
theorem crowded_put :
    putPlaces [entryFor 4095] crowded.places = crowded.places ++ [⟨4095, ⟨90, 76, 78⟩, [65], none, 0⟩] := by decide +kernel
theorem witness_PlaceStoresOrNamesTheFault_full :
    400 < (putPlaces [entryFor 4095] crowded.places).length ∧ sharesCode (putPlaces [entryFor 4095] crowded.places) = false := by
  rw [crowded_put]
  refine ⟨by decide +kernel, ?_⟩
  simp only [sharesCode, crowded, List.any_eq_false, List.mem_append, List.mem_map, List.mem_range, List.mem_singleton,
    List.any_eq_true, Bool.and_eq_true, bne_iff_ne, beq_iff_eq, not_exists, not_and]
  rintro p (⟨i, hi, rfl⟩ | rfl) q (⟨j, hj, rfl⟩ | rfl) h e
  all_goals have e' := Code3.mk.inj e
  all_goals simp only [ne_eq, not_true_eq_false] at h
  all_goals omega

theorem witness_UnplaceRemovesUnused :
    mapped.takesFrame 1 = true ∧ mapped.placeOf 1 = none ∧ mapped.placeOf 4095 = none ∧
      mapped.placeOf 31 = some (town 31 65 65 66 "Ashby" 0) ∧
      (State.placeOf { mapped with places := [town 4095 65 65 65 "Ayle" 1] } 4095) = some (town 4095 65 65 65 "Ayle" 1) := by
  decide +kernel

theorem mapped_ranges : mapped.RangesInv :=
  ⟨by decide +kernel, by decide +kernel, ⟨by decide +kernel, by decide +kernel, by decide +kernel, by decide +kernel⟩,
    ⟨by decide +kernel, by decide +kernel, by decide +kernel, by decide +kernel, by decide +kernel, by decide +kernel,
      by decide +kernel, by decide +kernel⟩, by decide +kernel, by decide +kernel, by decide +kernel, by decide +kernel⟩
theorem witness_GlyphIsStored :
    mapped.takesFrame 1 = true ∧ (List.replicate 16 7).length = 16 ∧
      mapped.glyphs[128 - 128]? ≠ some (glyphOf ⟨128, 1, List.replicate 16 7⟩) ∧
      mapped.glyphs[159 - 128]? ≠ some (glyphOf ⟨159, 12, List.replicate 16 7⟩) := by decide +kernel

theorem witness_TheLowestMatchingStrikeIsChosen :
    ([⟨1, ⟨65, 65, 65⟩, true⟩, ⟨2, ⟨65, 63, 63⟩, false⟩] : List Strike).Pairwise (fun a b => a.id < b.id) := by decide +kernel

/-- Eight strikes. -/
def struck : State := { mapped with strikes := (List.range 8).map fun k => ⟨k + 1, ⟨65, 63, 63⟩, false⟩ }

theorem witness_StrikeAndRestoreStartScans :
    isStrikeKey ⟨65, 63, 57⟩ = true ∧ isStrikeKey ⟨65, 63, 32⟩ = false ∧ mapped.scan = none ∧
      (∀ r ∈ mapped.strikes, r.id ≠ 1) ∧ (∃ r ∈ struck.strikes, r.id = 1) ∧ (∃ r ∈ struck.strikes, r.id = 8) ∧
      struck.takesFrame 1 = true ∧ struck.scan = none := by decide +kernel
theorem witness_StrikeAndRestoreStartScans_full : ∀ k, 1 ≤ k → k ≤ 8 → ∃ r ∈ struck.strikes, r.id = k := by
  intro k h₁ h₂
  have : ∀ k ≤ 8, 1 ≤ k → ∃ r ∈ struck.strikes, r.id = k := by decide +kernel
  exact this k h₂ h₁

def scanning (sc : Scan) : State := { busy with strikes := [⟨1, ⟨65, 63, 63⟩, sc.op == .restore⟩], scan := some sc }

theorem witness_ScanVisitsOneSlot :
    (scanning ⟨.strike, 1, 0, 0, 0⟩).scan = some ⟨.strike, 1, 0, 0, 0⟩ ∧
      (scanning ⟨.restore, 1, 22, 0, 0⟩).scan = some ⟨.restore, 1, 22, 0, 0⟩ ∧
      (scanning ⟨.restore, 1, 23, 9, 2⟩).scan = some ⟨.restore, 1, 23, 9, 2⟩ := by decide +kernel
theorem witness_ScanVisitsOneSlot_table : (scanning ⟨.restore, 1, 23, 9, 2⟩).TableInv :=
  ⟨by decide +kernel, by decide +kernel, by decide +kernel, by decide +kernel⟩

theorem witness_FaceStoresItsFields :
    (faceFields ⟨3, some 15, some ⟨0, 1, 2, 4⟩, some 7, some 0, some 1, some 0⟩).map FaceFields.panelId = some (some 15) ∧
      (faceFields ⟨0, none, none, some 121, some 7, none, none⟩).map FaceFields.panelId = some none ∧
      (shown.face .n3).panel.mode = .unbound ∧ (∀ g, g ≠ .n3 → (shown.face g).record.panelId ≠ 15) ∧
      (shown.face .n0).live = true ∧ (shown.face .n0).hasLine .n1 = true := by
  refine ⟨by decide, by decide, by decide, ?_, by decide, by decide⟩
  intro g; cases g <;> decide

/-- A bound face in a panel state that may be bound anew. -/
def bindable (mode : PanelMode) (sense power : Bool) (tail : Option Tail) : State :=
  idle.modFace .n0 fun x =>
    { x with
      record := { x.record with panelId := if mode = .unbound then 0 else 1 }
      panel := { x.panel with mode := mode, sense := sense, power := power, tail := tail } }

theorem bindable_panels (sense : Bool) : (bindable .unbound sense false none).PanelsInv := by
  refine ⟨fun f => ?_, fun f g h => ?_⟩
  · cases sense <;> cases f <;>
      exact ⟨by decide, by decide, by decide, by decide, by decide, by decide, by decide, by decide, by decide, by decide,
        by decide, by decide, by decide⟩
  · cases f <;> cases g <;> cases sense <;> decide
theorem witness_FaceBindsItsPanel :
    ((bindable .unbound true false none).face .n0).panel.mode = .unbound ∧ (1 : Nat) ≠ 0 ∧
      ((bindable .off true false none).face .n0).panel.mode = .off ∧ (bindable .off true false none).takesFrame 1 = true ∧
      (∀ f, ((bindable .off true false none).face f).PanelInv) := by
  refine ⟨by decide, by decide, by decide, by decide, fun f => ?_⟩
  cases f <;>
    exact ⟨by decide, by decide, by decide, by decide, by decide, by decide, by decide, by decide, by decide, by decide,
      by decide, by decide, by decide⟩

theorem witness_DwellTimersTurnThePage :
    (shown.face .n0).rotation.dwell = none ∧ (shown.face .n0).pageTimer = none ∧
      (warned.face .n0).pageTimer.isSome = true ∧
      ((shown.modFace .n0 fun x => { x with rotation := ⟨0, some 6⟩ }).face .n0).rotation.dwell.isSome = true := by
  decide +kernel

theorem witness_ScrollTimersAdvance :
    ((shown.face .n0).lines.get .n1).scroll.inPass = false ∧
      (((scrolling (.pass 173 160 331 133 67)).face .n0).lines.get .n1).scroll = .pass 173 160 331 133 67 ∧
      331 + 1 < 173 + 160 ∧ 173 + 160 ≤ 332 + 1 ∧ shown.timing.passGap ≠ 0 ∧
      (((scrolling (.gap 173 160 3000)).face .n0).lines.get .n1).scroll = .gap 173 160 3000 := by decide +kernel
theorem witness_ScrollTimersAdvance_role : lit.showsRole .n1 .calls := ⟨by decide, by decide, by decide, by decide⟩

theorem witness_TextIsFittedToItsLine :
    measure initialGlyphs [65] ≤ 7 ∧ 6 < measure initialGlyphs [65] ∧ (∀ c < 160, advance initialGlyphs c ≤ 12) := by
  decide +kernel
theorem witness_TextIsFittedToItsLine_advances : ∀ c, advance [] c ≤ 12 := by
  intro c
  unfold advance builtinAdvance
  split
  · exact (by decide : 6 ≤ 12)
  · repeat' split
    all_goals omega

theorem witness_TheTurnSendsTheNextLine :
    (rendering walking .engineTurn).link.tx = .engineTurn ∧ (rendering walking .engineTurn).engine.render = some walking ∧
      walking.walk ≤ Four.toNat .n0 ∧ (shown.face .n0).hasLine .n0 = true ∧
      ((shown.face .n0).lines.get .n0).current walking.hidden = false ∧ (rendering walking .free).link.tx ≠ .engineTurn := by
  decide +kernel

theorem witness_FlipOnlyWhenEveryLineIsCurrent :
    let s := (rendering { walking with walk := 2 } .engineTurn).modFace .n0 fun x =>
      { x with lines := x.lines.map fun l => { l with cur1 := true } }
    s.link.tx = .engineTurn ∧ s.engine.render = some { walking with walk := 2 } ∧
      (∀ j ∈ Four.all, (s.face .n0).hasLine j = true → ((s.face .n0).lines.get j).current .b1 = true) ∧
      (∀ j ∈ Four.all, walking.overtaken.get j = false) ∧ (∀ j ∈ Four.all, 4 ≤ j.toNat → (s.face .n0).hasLine j = true) := by
  decide +kernel

theorem witness_StoredSetsTheHiddenFlag :
    (rendering { walking with inFlight := some .n1 } .free).engine.render = some { walking with inFlight := some .n1 } ∧
      ((rendering walking .free).face .n0).record.panelId = 1 := by decide +kernel

theorem witness_FlippedSetsTheShownBuffer :
    (rendering { walking with phase := .flipping } .free).engine.render = some { walking with phase := .flipping } ∧
      (shown.face .n0).record.panelId = 1 ∧ shown.faceOf 1 = some .n0 ∧ (shown.face .n0).live = true ∧
      (shown.face .n0).record.shown ≠ .b1 ∧ shown.faceOf 15 = none := by decide +kernel

/-- Two faces wait: face 0 on panel 1, face 1 on panel 2. -/
def waiting : State :=
  (shown.modFace .n0 fun x => { x with record := { x.record with request := .waiting } }).modFace .n1 fun _ =>
    { lit with record := { lit.record with panelId := 2, request := .waiting } }

theorem witness_TheGrantGoesToTheFirstRanked :
    waiting.engine.history.Nodup ∧ waiting.engine.render = none ∧ waiting.bestWaiting = some .n1 ∧
      (waiting.face .n0).record.panelId ≠ (waiting.face .n1).record.panelId ∧ waiting.waitingFaces = [.n0, .n1] := by
  decide +kernel

theorem witness_AMarkOvertakesASentLine :
    (rendering { walking with sent := Quad.const true } .free).engine.render = some { walking with sent := Quad.const true } ∧
      (rendering { walking with phase := .flipping } .free).engine.render = some { walking with phase := .flipping } ∧
      (rendering walking .free).marks .glyph .n0 ((rendering walking .free).face .n0) .n0 = true := by decide +kernel

theorem witness_AMissingAnswerRetiresTheFace :
    let r := { walking with phase := .flipping, answer := some 5 }
    (rendering r .free).engine.render = some r ∧ ((rendering r .free).face .n0).live = true ∧
      ((shown.modPanel .n0 fun p => { p with awaiting := some 5 }).face .n0).panel.awaiting.isSome = true := by decide +kernel

theorem witness_TheEndOfAMessageStartsItsTimer :
    let r := { walking with inFlight := some .n0 }
    (rendering r (.sending (.line 1 .b1 .n0 []) (some .engine))).link.tx = .sending (.line 1 .b1 .n0 []) (some .engine) ∧
      (rendering r .free).engine.render = some r ∧ (rendering r .free).link.waiting = [] ∧
      ((panelIn .waking fun p => { p with step := some .awaitingReady }).face .n0).panel.step = some .awaitingReady ∧
      ((panelIn .retiring id).face .n0).panel.mode = .retiring ∧
      ((panelIn .off fun p => { p with tail := some ⟨1, none⟩ }).face .n0).panel.tail = some ⟨1, none⟩ ∧
      (SupMsg.tail ⟨.n0, true, 1, .dark⟩) = true := by decide +kernel

theorem witness_ShowRaisesAndClearRemoves :
    textAllowed 0 160 [] = true ∧ textAllowed 0 160 (List.replicate 160 159) = true ∧ (15 : Nat) < 16 ∧
      Nat.testBit 15 3 = true ∧ (∀ e ∈ (shown.face .n0).overrides, e.source.level ≠ 3) := by decide +kernel

theorem witness_WarnRaisesUntilItsTimer :
    (warned.face .n0).warning.isSome = true ∧ (shown.face .n0).warning = none ∧
      (∀ e ∈ (warned.face .n0).overrides, e.source.level ≤ 3) := by decide +kernel

theorem witness_ApproachReconfiguresTheInput :
    inputOf 0 = some .a ∧ inputOf 1 = some .b ∧ sensitivityOf 0 = some .off ∧ sensitivityOf 4 = some .both ∧
      (shown.approach.get .a).debounced = false ∧
      ((input { low with state := .active }).approach.get .a).state ≠ .clear ∧ (input low).takesFrame 1 = true := by
  decide +kernel

theorem witness_InputsAreDebounced :
    ((input { low with raw := false, debounce := some 20 }).approach.get .a).debounce.isSome = true ∧
      (low.raw = low.debounced ∧ low.debounce = none) ∧
      (input { low with sensitivity := .off, raw := false, debounce := some 20 }).approach.a.sensitivity = .off := by
  decide +kernel
theorem witness_EdgesRaiseAndRenew :
    let fall := { low with raw := false, debounce := some 20 }
    let rise := { low with debounced := false, debounce := some 20 }
    (fall.raw ≠ fall.debounced ∧ fall.state = .clear) ∧
      (rise.raw ≠ rise.debounced ∧ { rise with state := .active, hold := 0 }.hold = 0 ∧ rise.hold ≠ 0) ∧
      { fall with state := .holding }.state = .holding ∧ { rise with sensitivity := .rising }.raw = true ∧
      { fall with sensitivity := .falling, state := .active }.state ≠ .clear := by decide +kernel

theorem witness_InputTimersEndTheEntry :
    ((input { low with state := .holding, holdTimer := some 0 }).approach.get .a).holdTimer.isSome = true ∧
      ((input { low with state := .active, durationTimer := some 5 }).approach.get .a).durationTimer.isSome = true ∧
      low.holdTimer = none := by decide +kernel

theorem witness_SilenceLosesTheFeed :
    shown.port.silence = .running 90 ∧ State.port { shown with port := { shown.port with silence := .expired } } =
        { shown.port with silence := .expired } ∧
      (∀ f ∈ Four.all, (shown.face f).holds .feedLost = false) ∧
      ((shown.modFace .n0 fun x => { x with overrides := [⟨.feedLost, 0⟩] }).face .n0).holds .feedLost = true := by
  decide +kernel

theorem witness_PowerActsByPanelState :
    (shown.face .n0).panel.mode = .live ∧ (shown.face .n1).panel.mode = .unbound ∧
      ((panelIn .off id).face .n0).panel.mode = .off ∧ ((panelIn .waking id).face .n0).panel.mode = .waking ∧
      ((panelIn .faulted id).face .n0).panel.mode = .faulted ∧ (panelIn .off id).takesFrame 1 = true := by decide +kernel

theorem witness_DimSetsTheTarget :
    (shown.face .n0).live = true ∧ (shown.face .n0).bright.present = min 63 0 ∧ (shown.face .n0).panel.ambient = none ∧
      ((shown.modPanel .n0 fun p => { p with ambient := some 1023 }).face .n0).panel.ambient = some 1023 := by decide +kernel

theorem default_curve : CurveInv State.reset.curve := ⟨by decide +kernel, by decide +kernel⟩
theorem witness_TheCurveSetsAutoTargets :
    (∀ p ∈ List.replicate 8 (RawPoint.mk 1023 63), p.ambient ≤ 1023 ∧ p.level ≤ 63) ∧
      (List.replicate 8 (RawPoint.mk 1023 63)).Pairwise (fun p q => p.ambient ≤ q.ambient) ∧
      (∃ p ∈ List.replicate 8 (RawPoint.mk 1024 64), 1023 < p.ambient ∨ 63 < p.level) ∧
      ((shown.modFace .n0 fun x => { x with bright := { x.bright with auto := true } }).face .n0).bright.auto = true := by
  decide +kernel

theorem witness_SenseInputsMoveTheFace :
    (shown.face .n0).panel.sense = true ∧ (shown.face .n1).panel.sense = false ∧ (shown.face .n0).live = true ∧
      ((panelIn .absent fun p => { p with sense := false }).face .n0).panel.mode = .absent ∧
      (shown.face .n0).record.autoWake = false := by decide +kernel

theorem witness_TheWakeEndsInLiveOrFaulted :
    let s := panelIn .waking fun p => { p with step := some .awaitingReady, wake := some 400 }
    s.faceOf 1 = some .n0 ∧ (s.face .n0).panel.mode = .waking ∧ (s.face .n0).panel.step = some .awaitingReady ∧
      (s.face .n0).panel.wake.isSome = true ∧
      ((panelIn .waking fun p => { p with settle := some 50 }).face .n0).panel.settle.isSome = true ∧
      (shown.face .n0).panel.settle = none ∧ (shown.face .n0).panel.wake = none := by decide +kernel

theorem witness_PanelStateIsJudgedInOrder :
    let s := shown.modPanel .n0 fun p => { p with awaiting := some 5 }
    s.faceOf 1 = some .n0 ∧ (s.face .n0).live = true ∧ (s.face .n0).panel.awaiting.isSome = true ∧
      (s.face .n0).panel.poll.isSome = true ∧ s.awaitsFlip .n0 = false ∧ (shown.face .n0).panel.awaiting = none ∧
      (rendering { walking with phase := .flipping } .free).awaitsFlip .n0 = true := by decide +kernel

theorem witness_RetireDelaysEndTheSupply :
    ((panelIn .retiring fun p => { p with retireDelay := some 100 }).face .n0).panel.retireDelay.isSome = true ∧
      ((panelIn .off fun p => { p with tail := some ⟨1, some 100⟩ }).face .n0).panel.tail = some ⟨1, some 100⟩ ∧
      (shown.face .n0).panel.retireDelay = none ∧ (shown.face .n0).panel.tail = none := by decide +kernel

def ramping (present : Nat) : State :=
  shown.modFace .n0 fun x => { x with bright := { x.bright with present := present, ramp := some 40 } }

theorem witness_TheRampMovesOneLevel :
    ((ramping 31).face .n0).bright.present < ((ramping 31).face .n0).bright.effective ∧
      ((ramping 33).face .n0).bright.effective < ((ramping 33).face .n0).bright.present ∧
      ((ramping 32).face .n0).bright.present = ((ramping 32).face .n0).bright.effective ∧
      ((ramping 0).face .n0).bright.ramp.isSome = true ∧ (shown.face .n0).bright.ramp = none := by decide +kernel

theorem witness_FramesAreAdmittedOrDiscarded :
    requestHead (.drop 1 .malformed) = some (1, Kind.drop, false) ∧ requestHead (.place 0 (.broken [])) = some (0, Kind.place, false) ∧
      State.reset.port.receiver = .hunt ∧ idle.port.receiver ≠ .hunt ∧ idle.port.address = 1 ∧ idle.port.reply = none := by
  decide +kernel

theorem witness_FramesAreCountedAndAnswered :
    State.reset.port.receiver = .hunt ∧ State.reset.port.sending = none ∧ idle.port.receiver ≠ .hunt ∧
      idle.port.reply = none := by decide +kernel

theorem witness_EncodedFramesAreReceived :
    wellFormed (.drop 31 (.fields 65535)) = true ∧ (encodeFrame (.drop 31 (.fields 65535))).isSome = true ∧
      (requestFrame (.drop 31 (.fields 65535))).map RequestFrame.addr = some 31 ∧
      wellFormed (.showNotice 0 (.fields ⟨255, List.replicate 237 255⟩)) = true := by decide +kernel

/-! ### Clauses reached: a state and operands for each further clause, at the ends of the ranges it names -/

theorem witness_RestartAllResets_modes :
    (∀ m ∈ [PanelMode.waking, .off, .faulted, .absent, .unbound],
      ((panelIn m id).face .n0).panel.mode = m ∧ (panelIn m id).takesFrame 1 = true) ∧
      ((panelIn .unbound fun p => { p with tail := some ⟨1, none⟩ }).face .n0).panel.tail = some ⟨1, none⟩ := by
  decide +kernel

theorem witness_TimeSetsTheClock_expiry :
    busy.takesFrame 1 = true ∧ busy.clock.valid = true ∧ 0 < timeStep (0 * 60 + 22) busy.clock.minuteOfDay ∧
      after (.time 1 (.fields ⟨0, 22, 0⟩)) busy (fun t => t.services == [] && t.freeCells == 640 && t.notices.length == 2) =
        true ∧
      after (.time 1 (.fields ⟨0, 20, 59⟩)) busy (fun t =>
        t.services.any fun v => v.due busy.clock.pmc != v.due t.clock.pmc) = true := by decide +kernel
theorem witness_ClockSecondAdvances_due :
    after .clockSecond { holding mapped [{ train 0 101 with sched := 0, schedAbs := 2880 }] with
        clock := ⟨true, 23, 59, 59, 2879, some 1000⟩ }
      (fun t => t.services.any fun v => v.due 2879 != v.due t.clock.pmc) = true := by decide +kernel

theorem witness_PostReadsItsFields_portions :
    (postService late.clock { post 103 0 with portions := 2, tail := .afterReason 4 31 16 [65] }).map
      (fun v => (v.front, v.rear, v.reason)) = some (⟨12, some 4⟩, some ⟨31, some 16⟩, some [65]) := by decide +kernel

theorem witness_HeadFieldsAreReplaced_refusals :
    busy.handleService 999 = none ∧ amendedService (train 1 102) ⟨102, 4, ⟨255, 255⟩, 0, []⟩ = none ∧
      (amendedService (train 1 102) ⟨102, 1, ⟨23, 50⟩, 0, []⟩).map
        (Service.expired busy.clock.pmc busy.timing.clearDown) = some true := by decide +kernel
theorem witness_ReadAndListOnlyReport_refusals :
    busy.takesFrame 0 = true ∧ busy.handleService 999 = none ∧ busy.serviceAt 3 = none ∧ busy.serviceAt 24 = none ∧
      busy.handleService 102 = some (train 1 102) ∧ (train 1 102).load = none := by decide +kernel

/-- Four loads open, the last service without one, and no free cell. -/
def loading : State :=
  { holding mapped ((List.range 4).map (fun k => { train k (k + 1) with load := some loaded }) ++ [train 4 5]) with
    freeCells := 0 }

theorem witness_CallsExtendsThePending_refusals :
    loading.takesFrame 1 = true ∧ loading.handleService 5 = some (train 4 5) ∧ (train 4 5).load = none ∧
      4 ≤ loading.openLoads ∧ loading.handleService 999 = none ∧
      entriesOf [⟨10, 12, ⟨14, 8⟩, 3, false⟩] = none ∧ entriesOf [⟨10, 12, ⟨24, 0⟩, 0, false⟩] = none ∧
      loading.hasPlace 13 = false ∧ loading.hasPlace 12 = true ∧
      loading.handleService 1 = some { train 0 1 with load := some loaded } ∧
      loading.freeCells + [entry 5 .calling].length < (extendPending [entry 5 .calling] [entry 10 .calling]).length ∧
      48 < (extendPending [] ((List.range 49).map fun k => entry k .calling)).length := by decide +kernel
theorem witness_LoadsAreDiscarded_none : busy.handleService 102 = some (train 1 102) ∧ (train 1 102).load = none := by
  decide +kernel

theorem witness_PlaceStoresOrNamesTheFault_duplicate :
    sharesCode mapped.places = false ∧ busy.takesFrame 1 = true ∧
      (let ps := [entryFor 1, ⟨13, ⟨65, 65, 65⟩, [65], []⟩]
       sharesCode (putPlaces ps mapped.places) = true ∧ duplicatePositions ps (putPlaces ps mapped.places) = [2]) ∧
      let ps := [⟨13, ⟨90, 90, 90⟩, [65], []⟩, entryFor 1, ⟨14, ⟨90, 90, 90⟩, [65], []⟩]
      sharesCode (putPlaces ps mapped.places) = true ∧ duplicatePositions ps (putPlaces ps mapped.places) = [3] := by
  decide +kernel
/-- Two entries that gave the code of an untouched place: the later one is named (R49); of three, either later one may be. -/
theorem witness_PlaceStoresOrNamesTheFault_two_and_three :
    after (.place 1 (.fields [⟨13, ⟨65, 65, 65⟩, [65], []⟩, ⟨14, ⟨65, 65, 65⟩, [65], []⟩])) mapped (fun t =>
      answers .duplicate t && t.port.reply.map Reply.fields == some (.placeRefused 2)) = true ∧
    (let ps := [⟨13, ⟨65, 65, 65⟩, [65], []⟩, ⟨14, ⟨65, 65, 65⟩, [65], []⟩, ⟨15, ⟨65, 65, 65⟩, [65], []⟩]
     duplicatePositions ps (putPlaces ps mapped.places) = [2, 3]) := by decide +kernel
/-- Place 12 is renamed and given a code that strike 1 matches: its active entry is struck. -/
theorem witness_PlaceStoresOrNamesTheFault_marks :
    after (.place 1 (.fields [⟨12, ⟨90, 90, 90⟩, [66], []⟩])) { busy with strikes := [⟨1, ⟨90, 63, 63⟩, false⟩] } (fun t =>
      t.services.map Service.activeEntries == [[entry 10 (.strike 1)], []] &&
        t.port.reply.map Reply.fields == some (.places 3 1) &&
        (t.placeOf 12).map PlaceEntry.full != (busy.placeOf 12).map PlaceEntry.full) = true := by decide +kernel

theorem witness_GlyphIsStored_refusals :
    mapped.takesFrame 1 = true ∧ mapped.glyphs[128 - 128]? = some (glyphOf ⟨128, 6, List.replicate 16 0⟩) ∧
      ¬(128 ≤ 127) ∧ (159 : Nat) < 160 ∧ (12 : Nat) < 13 := by decide +kernel

theorem witness_ScanVisitsOneSlot_marks :
    after .scanVisit (scanning ⟨.strike, 1, 0, 0, 0⟩) (fun t => t.scan == some ⟨.strike, 1, 1, 1, 1⟩) = true := by
  decide +kernel

theorem witness_FaceStoresItsFields_refusals :
    faceFields ⟨0, none, some ⟨0, 5, 0, 0⟩, none, none, none, none⟩ = none ∧
      faceFields ⟨0, none, none, none, none, some 2, none⟩ = none ∧
      faceFields ⟨4, some 16, none, none, none, none, none⟩ ≠ none ∧
      2 ≠ (shown.face .n0).record.panelId ∧ (shown.face .n0).panel.mode = .live ∧
      (shown.face .n1).panel.mode = .unbound ∧ (shown.face .n0).record.panelId = 1 := by decide +kernel
theorem witness_FaceStoresItsFields_changes :
    after (.face 1 (.fields ⟨0, none, some ⟨1, 1, 2, 3⟩, none, none, none, none⟩)) shown (fun t =>
      (t.face .n0).record.roles.get .n0 != (shown.face .n0).record.roles.get .n0) = true ∧
    after (.face 1 (.fields ⟨0, none, none, some 8, some 6, some 1, some 1⟩)) shown (fun t =>
      (t.face .n0).record.speed == 8 && (t.face .n0).record.depth == 6 && (t.face .n0).record.callTimes &&
        (t.face .n0).record.autoWake) = true ∧
    (shown.face .n0).record.roles.get .n1 = .calls ∧ (shown.face .n0).record.callTimes = false := by decide +kernel

def rotating (s : State) (index : Nat) : State := s.modFace .n0 fun x => { x with rotation := ⟨index, some 6⟩ }

theorem witness_DwellTimersTurnThePage_order :
    shown.rotationCount (shown.face .n0) = 1 ∧ ((rotating shown 1).face .n0).rotation = ⟨1, some 6⟩ ∧
      ((rotating (holding shown []) 0).face .n0).rotation.dwell.isSome = true ∧
      (holding shown []).rotationCount ((holding shown []).face .n0) = 0 ∧ (shown.face .n0).live = true ∧
      ((panelIn .off id).face .n0).live = false := by decide +kernel

theorem witness_ScrollTimersAdvance_reports :
    (shown.face .n0).record.roles.get .n1 = .calls ∧ shown.changesText .glyph .n0 .n0 ∧
      shown.changesText (.close 0) .n0 .n1 ∧ shown.changesText .clockSecond .n0 .n3 ∧
      ¬shown.changesText (.rotation .n0) .n0 .n1 := by
  refine ⟨by decide, .inl rfl, .inr (.inr ⟨by decide, first, by decide +kernel, .inr (.inl rfl)⟩),
    .inr (.inl ⟨by decide, .inl rfl⟩), ?_⟩
  rintro (h | ⟨-, h | h⟩ | ⟨-, v, -, h | h | h | ⟨id, h, -⟩⟩) <;> cases h
theorem witness_ScrollTimersAdvance_no_gap :
    let s := { scrolling (.pass 173 160 332 133 67) with timing := { shown.timing with passGap := 0 } }
    s.timing.passGap = 0 ∧ ((s.face .n0).lines.get .n1).scroll = .pass 173 160 332 133 67 ∧ 173 + 160 ≤ 332 + 1 := by
  decide +kernel

theorem witness_TheTurnSendsTheNextLine_none :
    ∀ r, (rendering { walking with phase := .flipping } .engineTurn).engine.render = some r → r.phase = .flipping := by
  intro r h
  cases h
  rfl

theorem witness_FlipOnlyWhenEveryLineIsCurrent_fails :
    let r := { walking with walk := 2, overtaken := addLine noLines .n0 }
    let s := rendering r .engineTurn
    s.engine.render = some r ∧ (∀ j ∈ Four.all, 2 ≤ j.toNat → (s.face .n0).hasLine j = false) ∧
      (s.face .n0).hasLine .n0 = true ∧ ((s.face .n0).lines.get .n0).current .b1 = false ∧ r.overtaken.get .n0 = true := by
  decide +kernel

theorem witness_AMarkOvertakesASentLine_override :
    (warned.face .n0).currentOverride.isSome = true ∧ shown.marks (.close 0) .n0 (shown.face .n0) .n1 = true ∧
      shown.marks (.place 12) .n0 (shown.face .n0) .n0 = true := by decide +kernel

theorem witness_TheGrantGoesToTheFirstRanked_ranks :
    (∀ g, g ≠ .n1 → (waiting.face g).record.request = .waiting → waiting.outranks .n1 g) ∧
      ∃ g, (waiting.face g).record.request = .waiting := by
  refine ⟨fun g hne h => ?_, .n0, by decide⟩
  cases g with
  | n0 => exact .inr ⟨by decide, .inr (.inr ⟨by decide, by decide, by decide⟩)⟩
  | n1 => exact absurd rfl hne
  | n2 => exact absurd h (by decide)
  | n3 => exact absurd h (by decide)

/-- Face 0 awaits a PANEL_STATE; its POLL and the WAKE of face 1 wait while a LEVEL of face 0 is sent. -/
def queued (engineWaits : Bool) (ms : List SupMsg) : State :=
  { rendering walking .free with link := ⟨.sending (.level 1 5) (some (.face .n0)), ms, engineWaits⟩ }

theorem witness_TheEndOfAMessageStartsItsTimer_waiting :
    let poll : SupMsg := ⟨.n0, false, 1, .poll⟩
    let wake : SupMsg := ⟨.n1, false, 2, .wake⟩
    after .transmitEnd (queued false [poll, wake]) (fun t => t.heldBack poll && !t.heldBack wake) = true ∧
      after .transmitEnd (queued true [poll]) (fun t => t.heldBack poll) = true ∧
      (queued true [poll]).link.engineWaits = true ∧ (queued false [poll]).link.engineWaits = false ∧
      (queued false [poll]).engine.render.isSome = true ∧
      (rendering walking (.sending (.dark 1) none)).link.tx = .sending (.dark 1) none := by decide +kernel

theorem witness_ShowRaisesAndClearRemoves_refusals :
    textAllowed 0 160 [127] = false ∧ textAllowed 0 160 (List.replicate 161 65) = false ∧ shown.takesFrame 1 = true ∧
      (16 : Nat) < 256 := by decide +kernel

theorem witness_EdgesRaiseAndRenew_none :
    let rise := { low with debounced := false, debounce := some 20 }
    let fall := { low with raw := false, debounce := some 20 }
    ((input rise).approach.get .a).debounce.isSome = true ∧ rise.raw = true ∧ rise.state ≠ .active ∧
      fall.raw ≠ fall.debounced ∧ { fall with state := .active }.state = .active ∧
      { fall with sensitivity := .rising }.raw = false ∧ { rise with sensitivity := .falling }.raw = true ∧
      { rise with sensitivity := .off }.sensitivity = .off := by decide +kernel

def asking (kind : SupKind) (s : State) : State := { s with link := { s.link with waiting := [⟨.n0, false, 1, kind⟩] } }

theorem witness_PanelStateIsJudgedInOrder_waits :
    (asking .poll shown).messageWaits .n0 .poll = true ∧ shown.messageWaits .n0 .poll = false ∧
      ((asking .poll shown).face .n0).panel.poll.isSome = true := by decide +kernel
theorem witness_TheRampMovesOneLevel_waits :
    (asking .level (ramping 31)).messageWaits .n0 .level = true ∧ (ramping 31).messageWaits .n0 .level = false ∧
      ((ramping 31).face .n0).live = true ∧
      ((shown.modFace .n0 fun x => { x with bright := ⟨false, 32, false, 31, some 40, some 32⟩ }).face .n0).bright.report =
        some (31 + 1) := by decide +kernel

/-- A reply is pending. -/
def owing : State := { idle with port := { idle.port with reply := some ⟨Kind.drop, .done, 0, .none⟩ } }

theorem witness_FramesAreAdmittedOrDiscarded_owing :
    wellFormed (.drop 1 .malformed) = true ∧ wellFormed (.place 0 (.broken [])) = true ∧
      wellFormed (.unknownKind 31 0x29) = true ∧ owing.port.reply.isSome = true ∧ owing.port.receiver ≠ .hunt ∧
      requestHead (.unknownKind 31 0x29) = some (31, 0x29, false) := by decide +kernel
theorem witness_FramesAreCountedAndAnswered_owing :
    owing.port.reply = some ⟨Kind.drop, .done, 0, .none⟩ ∧ owing.port.sending = none ∧
      ({ owing.port with sending := some [] }).sending.isSome = true := by decide +kernel

theorem witness_RestartAllResets_waiting :
    let s := { panelIn .retiring id with
      link := ⟨.sending (.poll 2) (some (.face .n1)), [⟨.n0, false, 1, .dark⟩, ⟨.n0, false, 1, .sleep⟩], false⟩ }
    s.takesFrame 1 = true ∧ (s.face .n0).panel.mode = .retiring ∧ s.messageWaits .n0 .dark = true ∧
      s.messageWaits .n0 .sleep = true ∧ (panelIn .retiring id).messageWaits .n0 .dark = false := by decide +kernel
theorem witness_RestartContentClears_grant :
    after (.restartContent 1 (.fields ())) (rendering walking .free) (fun t =>
      t.engine.render.isSome && t.engine.history == [.n0] && (t.face .n1).record.request == .none) = true := by decide +kernel

theorem witness_TheLowestMatchingStrikeIsChosen_judged :
    (∃ r ∈ struck.strikes, r.id = 2 ∧ struck.strikeMatches r 12 = true) ∧
      (∀ r ∈ (scanning ⟨.strike, 1, 0, 0, 0⟩).strikes, r.id = 2 → State.strikeMatches struck r 12 = false) ∧
      (entry 10 .calling).mark = .calling ∧ (entry 10 (.strike 2)).mark = .strike 2 := by decide +kernel
theorem witness_ScanVisitsOneSlot_passes :
    let s := { scanning ⟨.strike, 1, 0, 0, 0⟩ with strikes := [⟨1, ⟨90, 63, 63⟩, false⟩] }
    ∀ r ∈ s.strikes, r.id = 1 → s.strikeMatches r 12 = false := by decide +kernel

theorem witness_strays_meet_a_walking_render :
    let s := (rendering walking .free).modPanel .n0 fun p => { p with awaiting := some 5 }
    s.grants .n0 = true ∧ s.awaitsFlip .n0 = false ∧ s.faceOf 1 = some .n0 ∧ (s.face .n0).live = true ∧
      (s.face .n0).record.shown ≠ .b1 ∧ (s.face .n0).panel.awaiting.isSome = true := by decide +kernel

theorem witness_ApproachReconfiguresTheInput_holds :
    (∀ f ∈ Four.all, (shown.face f).holds (sourceOf .a) = false) ∧ (shown.approach.get .a).state = .clear ∧
      ((input { low with state := .active }).approach.get .a).state = .active := by decide +kernel
theorem witness_SilenceLosesTheFeed_frame :
    (shown.modFace .n0 fun x => { x with overrides := [⟨.feedLost, 0⟩] }).takesFrame 0 = true := by decide +kernel

/-- FEED_LOST before a disruption, with its page 1 shown: the lists are in their order. -/
def losing : State :=
  { shown.modFace .n0 fun x =>
      { x with overrides := [⟨.feedLost, 1⟩, ⟨.stationDisruption, 0⟩], page := 1, pageTimer := some 5 } with nextStamp := 2 }
theorem witness_TimingStoresItsSettings : losing.takesFrame 1 = true ∧ losing.OverridesInv := by
  refine ⟨by decide +kernel, fun f => ⟨?_, ?_, ?_⟩⟩
  · cases f <;> decide +kernel
  · cases f <;> first | exact List.Pairwise.nil | exact .cons (fun e h => by
      rw [List.mem_singleton] at h; subst h; exact .inr ⟨rfl, by decide⟩) (.cons (fun _ h => by cases h) .nil)
  · cases f <;> decide +kernel
theorem witness_RestartContentClears_ramp :
    after (.restartContent 1 (.fields ()))
      (shown.modFace .n0 fun x =>
        { x with overrides := [⟨.stationWarning, 0⟩], bright := { x.bright with level3 := true, present := 48 } }) (fun t =>
      !(t.face .n0).bright.level3 && (t.face .n0).bright.ramp == some 40 && (t.face .n0).bright.present == 48) = true := by
  decide +kernel
theorem witness_RestartContentClears_sending :
    after (.restartContent 1 (.fields ()))
      { rendering walking (.sending (.line 1 .b1 .n0 []) (some .engine)) with
        link := ⟨.sending (.line 1 .b1 .n0 []) (some .engine), [⟨.n0, false, 1, .poll⟩], false⟩ } (fun t =>
      t.link.tx == .sending (.line 1 .b1 .n0 []) none && t.link.waiting == [⟨.n0, false, 1, .poll⟩]) = true := by
  decide +kernel
theorem witness_DimSetsTheTarget_auto :
    after (.dimAuto 1 (.fields ⟨1, 0⟩)) (shown.modPanel .n0 fun p => { p with ambient := some 1023 }) (fun t =>
      (t.face .n0).bright.effective == 63 && (t.face .n0).bright.ramp == some 40 && (t.face .n0).bright.present == 0) =
      true := by decide +kernel
theorem witness_EncodedFramesAreReceived_head :
    wellFormed (.place 31 (.fields [])) = true ∧ requestHead (.place 31 (.fields [])) = some (31, Kind.place, true) ∧
      wellFormed (.showNotice 0 (.fields ⟨255, List.replicate 237 255⟩)) = true ∧
      requestHead (.showNotice 0 (.fields ⟨255, List.replicate 237 255⟩)) = some (0, Kind.show, true) := by decide +kernel
theorem witness_TextIsFittedToItsLine_fields :
    let lead := codes "23:58"; let status := codes "Cancelled"
    88 < measure initialGlyphs lead + 4 + measure initialGlyphs status ∧
      measure initialGlyphs lead + 4 + measure initialGlyphs status ≤ 89 ∧
      92 < measure initialGlyphs lead + measure initialGlyphs status + 8 ∧
      93 = measure initialGlyphs lead + measure initialGlyphs status + 8 + 0 ∧
      80 = 29 + 4 + measure initialGlyphs (codes "00:00:00") := by decide +kernel
theorem witness_TextIsFittedToItsLine_image :
    ((drawImage initialGlyphs 80 [⟨0, [65], 0, 80⟩])[15]?.map List.length) = some 80 ∧
      mapped.clock.InRange := ⟨by decide +kernel, by decide, by decide, by decide, by decide⟩

/-- A LIVE face of four lines with these roles and override entries. -/
def composed (roles : Quad Role) (es : List OverrideEntry) : Face :=
  { lit with record := { lit.record with roles := roles, geometry := some ⟨384, 4⟩ }, overrides := es }
def divided : Service := { train 0 205 with rear := some ⟨31, some 16⟩, active := some [entry 10 .calling] }
theorem witness_TheTurnSendsTheNextLine_roles :
    let x := composed ⟨.head, .calls, .follow, .notice⟩ []
    x.currentOverride = none ∧ x.record.roles.get .n0 = .head ∧ x.record.roles.get .n1 = .calls ∧
      x.record.roles.get .n2 = .follow ∧ x.record.roles.get .n3 = .notice ∧ mapped.serviceAt 1 = none ∧
      busy.serviceAt 1 = some first ∧ first.state ≠ .cancelled ∧ first.active = some [entry 10 .calling] ∧
      busy.serviceAt 2 = some (train 1 102) ∧ (train 1 102).active = none ∧ 0 < x.record.depth ∧
      1 < busy.services.length ∧ (holding mapped [train 0 101]).services.length ≤ 1 ∧
      (composed (Quad.const .blank) []).record.roles.get .n0 = .blank ∧
      (holding mapped [{ train 0 101 with state := .cancelled }]).serviceAt 1 =
        some { train 0 101 with state := .cancelled } := by decide +kernel
theorem witness_TheTurnSendsTheNextLine_override :
    let s := mapped.setText .stationDisruption (codes "Signal fault")
    let x := composed (Quad.const .head) [⟨.stationDisruption, 0⟩]
    x.currentOverride = some .stationDisruption ∧ (wrapText s.glyphs x.width (s.texts.get .stationDisruption)).length = 1 ∧
      (wrapText mapped.glyphs x.width (mapped.texts.get .stationDisruption)).length = 0 ∧ x.lineCount = 4 := by decide +kernel
theorem witness_TheTurnSendsTheNextLine_texts :
    (mapped.placeOf 12).map PlaceEntry.id = some 12 ∧ (train 0 101).rear = none ∧ divided.rear = some ⟨31, some 16⟩ ∧
      [entry 10 .calling] = [entry 10 .calling].filter (fun e => e.mark = .calling) ∧ (entry 10 .calling).mask = .both ∧
      ({ entry 20 .calling with mask := .second }).mask ≠ .both ∧ (entry 10 .calling).time = none ∧
      ({ train 0 101 with state := .expected 21 2901 }).state = .expected 21 2901 ∧
      divided.front.coaches = none := by decide +kernel

/-- A FEED notice waits between two others; a handle's slot and a face are subjects of their own kinds (R193). -/
def posted : List Notice := [.patternLost 3 101, .feed false, .faceState .n3 .off .none]
theorem witness_CollectAndStatusReport_posted :
    posted.Pairwise (fun a b => a.subject ≠ b.subject) ∧ posted[1]? = some (.feed false) ∧
      (Notice.feed false).subject = (Notice.feed true).subject ∧
      (∀ m ∈ posted, m.subject ≠ (Notice.serviceExpired 3 101 0).subject) := by decide +kernel
theorem witness_EveryStepKeepsListsAndRanges_notices :
    takesNotices (.loadIdleTimeout 0) = false ∧
      after (.loadIdleTimeout 0) { busy with notices := posted } (fun t => t.notices == posted ++ [.patternLost 0 101]) =
        true := by decide +kernel
/-- POST names a place: what makes it one that is not in the dictionary, and when a service has expired (R15, R17). -/
theorem witness_PostCreatesInLowestSlot_places :
    busy.postNamesNoPlace { post 103 0 with portions := 2, tail := .afterDest2 0 13 } = true ∧
      busy.postNamesNoPlace { post 103 0 with portions := 1, tail := .afterDest2 0 13 } = false ∧
      busy.postNamesNoPlace { post 103 0 with portions := 2, tail := .afterDest2 0 0 } = false ∧
      [3140, 3141].map (fun pmc => ({ train 0 101 with state := .delayed }).expired pmc 1) = [false, true] ∧
      [2901, 2902].map (fun pmc => (train 0 101).expired pmc 1) = [false, true] ∧
      ({ train 0 101 with state := .expected 25 2905 }).expired 2902 1 = false := by decide +kernel
theorem witness_PostCreatesInLowestSlot_insert :
    [train 0 101, train 2 102].Pairwise (fun x y => x.slot < y.slot) ∧ (∀ w ∈ [train 0 101, train 2 102], w.slot ≠ 1) := by
  decide +kernel
theorem witness_ReadAndListOnlyReport_status :
    busy.order.Nodup ∧ busy.order[1]? = some 1 ∧ (train 0 101).due 2900 = true ∧ (train 0 101).due 2899 = false ∧
      ({ train 0 101 with state := .expected 20 2900 }).due 2899 = false := by decide +kernel
/-- A key that is there is replaced whole, and the later of two entries with one key is the one kept (R36). -/
theorem witness_CallsExtendsThePending_keys :
    [entry 5 .calling, entry 9 .listed].Pairwise (fun d e => d.key < e.key) ∧
      extendPending [entry 5 .calling, entry 9 .listed]
        [⟨9, 31, none, .first, .calling⟩, entry 7 .calling, ⟨9, 47, some 5, .both, .listed⟩] =
        [entry 5 .calling, entry 7 .calling, ⟨9, 47, some 5, .both, .listed⟩] ∧
      entriesOf [⟨10, 12, ⟨255, 255⟩, 2, true⟩] = some [⟨10, 12, none, .second, .listed⟩] := by decide +kernel
/-- The areas of a LIVE face are measured by their role's text, and a NOTICE area stands left of the clock. -/
theorem witness_ScrollTimersAdvance_measures :
    let x := composed ⟨.calls, .notice, .head, .blank⟩ [⟨.stationNotice, 0⟩]
    let s := busy.setText .stationNotice [65]
    x.live = true ∧ x.hasLine .n3 = true ∧ lit.hasLine .n2 = false ∧ x.holds .stationNotice = true ∧
      s.texts.notice ≠ [] ∧ (∃ text, s.lineContent { x with overrides := [] } .n0 = .scrolling text) ∧
      mapped.lineContent { x with overrides := [] } .n0 = .empty :=
  ⟨by decide, by decide, by decide, by decide, by decide, ⟨_, rfl⟩, by decide +kernel⟩
theorem witness_TextIsFittedToItsLine_wraps :
    (wrapText initialGlyphs 80 (codes "Kestle-Farrow closed"))[0]? = some (codes "Kestle-Farro") ∧
      (wrapText initialGlyphs 80 (codes "Kestle-Farrow closed"))[1]? = some (codes "w closed") ∧
      (let lines := wrapText initialGlyphs 80 (codes "i WWWWWWWiWx")
       lines = [codes "i", codes "WWWWWWWi", codes "Wx"] ∧
         measure initialGlyphs (codes "i WWWWWWWi") = 79) := by decide +kernel

/-! ### States that meet the invariants -/

/-- A step from a state that meets the premises of the invariants of the table, the pool and the dictionary. -/
theorem witness_EveryStepKeepsTheTable :
    (step (busy.withPending [.drop 1 (.fields 101)]) = exec (.drop 1 (.fields 101)) (busy.withPending [])) ∧
      busy.freeCells + (busy.services.map Service.cells).sum = 640 := ⟨rfl, by decide +kernel⟩
theorem busy_pool : busy.PoolInv := by
  refine ⟨by decide +kernel, fun v h => ?_, fun v h => ?_, by decide +kernel⟩ <;>
    (simp only [busy, holding, List.mem_cons, List.not_mem_nil, or_false] at h
     rcases h with rfl | rfl <;> exact ⟨by decide +kernel, by decide +kernel⟩)

/-- `busy` with the references its services hold counted. -/
def counted : State := { busy with places := [town 12 65 65 65 "Colmore" 4] }
theorem counted_places : counted.PlacesInv := ⟨by decide +kernel, by decide +kernel, by decide +kernel, by decide +kernel, by decide +kernel⟩
/-- Two entries of a request, and no other, gave the code that a place of the dictionary has. -/
theorem witness_PlaceStoresOrNamesTheFault_later :
    let ps := [⟨13, ⟨65, 65, 65⟩, [65], []⟩, ⟨14, ⟨65, 65, 65⟩, [65], []⟩]
    counted.takesFrame 1 = true ∧ sharesCode (putPlaces ps counted.places) = true ∧
      givesCollidingCode ps (putPlaces ps counted.places) 1 ∧ givesCollidingCode ps (putPlaces ps counted.places) 2 ∧
      ∀ k, givesCollidingCode ps (putPlaces ps counted.places) k → k = 1 ∨ k = 2 := by
  refine ⟨by decide +kernel, by decide +kernel, ⟨_, by decide, rfl, by decide, by decide +kernel⟩,
    ⟨_, by decide, rfl, by decide, by decide +kernel⟩, ?_⟩
  rintro k ⟨p, h1, hp, -⟩
  have : k - 1 < 2 := (List.getElem?_eq_some_iff.1 hp).1
  omega
theorem witness_HeadFieldsAreReplaced_places :
    counted.takesFrame 1 = true ∧ counted.handleService 102 = some (train 1 102) := by decide +kernel
theorem counted_table : counted.TableInv := ⟨by decide +kernel, by decide +kernel, by decide +kernel, by decide +kernel⟩
theorem counted_strikes : counted.StrikesInv where
  ascending := by decide +kernel
  ids := by decide +kernel
  stands := by
    intro v hv e he k hk
    have : ∀ v ∈ counted.services, ∀ e ∈ v.activeEntries, e.mark = .calling := by decide +kernel
    rw [this v hv e he] at hk; cases hk
  unstruck := by
    intro v hv e he k hk
    have : ∀ v ∈ counted.services, ∀ e ∈ v.pendingEntries, e.mark = .calling := by decide +kernel
    rw [this v hv e he] at hk; cases hk
  releasing := by intro r h; cases h
  visited := by rintro k n ⟨sc, h, -⟩; cases h
  next := by intro sc h; cases h

theorem idle_panels : idle.PanelsInv := by
  refine ⟨fun f => ?_, fun f g h => ?_⟩
  · cases f <;>
      exact ⟨by decide, by decide, by decide, by decide, by decide, by decide, by decide, by decide, by decide, by decide,
        by decide, by decide, by decide⟩
  · cases f <;> cases g <;> decide
theorem idle_faces : idle.FacesInv := by
  intro f
  refine ⟨fun _ => ⟨fun j => ?_, ?_, ?_⟩, ?_, ?_⟩ <;> cases f <;> (try cases j) <;> decide
theorem idle_engine : idle.EngineInv := by
  refine ⟨fun f => ?_, fun f => ?_, ?_, by decide, ?_, ?_⟩
  · cases f <;> decide
  · cases f <;> decide
  · intro r h; cases h
  · intro r h; cases h
  · intro r h; cases h
theorem idle_levels : idle.LevelsInv := by
  refine ⟨fun f => ⟨?_, ?_, ?_, ?_, ?_, ?_⟩, ⟨by decide, by decide⟩⟩ <;> cases f <;> decide
theorem idle_overrides : idle.OverridesInv := by
  intro f
  refine ⟨?_, ?_, ?_⟩ <;> cases f <;> first | exact List.Pairwise.nil | (intro e h; cases h)
theorem idle_queue : idle.QueueInv := by
  refine ⟨List.Pairwise.nil, ?_, ?_⟩ <;> (intro n h; cases h)

end Sys2Proof.Tests
end

/-! What the statements of line composition and of the wake share: how the parts of a face that an operation leaves
are read back, and what an event of the part itself leaves at its end. -/

namespace Sys2Proof.Machine.LineComposition

open Sys2Proof Sys2Proof.Machine

variable {x y : Face} {s t u : State} {f g : FaceId} {i j : LineId} {ps qs : List FacePart} {bs : List Block}

/-! ### Faces that an operation leaves -/

theorem quad_set_get_self {α : Type} (q : Quad α) (i : Four) : q.set i (q.get i) = q := by cases i <;> rfl

/-- A line is its two flags, its clipped mark and its scroll state. -/
theorem line_eq_of_agrees (flags : x.agrees y .flags) (clipped : x.agrees y .clipped) (scrolls : x.agrees y .scrolls) :
    y.lines.get j = x.lines.get j := by
  obtain ⟨h₀, h₁, hc, hs⟩ :
      (y.lines.get j).cur0 = (x.lines.get j).cur0 ∧ (y.lines.get j).cur1 = (x.lines.get j).cur1 ∧
        (y.lines.get j).clipped = (x.lines.get j).clipped ∧ (y.lines.get j).scroll = (x.lines.get j).scroll :=
    ⟨flags j .b0, flags j .b1, clipped j, scrolls j⟩
  cases hx : x.lines.get j
  cases hy : y.lines.get j
  simp_all

theorem stale_of_agrees (h : (s.face f).agrees (t.face f) .flags) (stale : s.staleLine f j) : t.staleLine f j :=
  ⟨(h j .b0).trans stale.1, (h j .b1).trans stale.2⟩

theorem others_mono (h : s.othersChangeOnly t f ps) (sub : ps ⊆ qs) : s.othersChangeOnly t f qs :=
  fun g n => (h g n).mono sub

theorem others_trans (h : s.othersChangeOnly t f ps) (k : t.othersChangeOnly u f ps) : s.othersChangeOnly u f ps :=
  fun g n => (h g n).trans (k g n)

theorem others_of_faces (h : s.facesChangeOnly t ps) : s.othersChangeOnly t f ps := fun g _ => h g

/-! ### One line of a face -/

/-- Replacing a line changes no part but those in which the two lines differ. -/
theorem setLine_parts (l : Line) (flags : .flags ∈ ps ∨ ∀ b, l.current b = (x.lines.get j).current b)
    (clipped : .clipped ∈ ps ∨ l.clipped = (x.lines.get j).clipped)
    (scrolls : .scrolls ∈ ps ∨ l.scroll = (x.lines.get j).scroll) :
    x.changesOnly { x with lines := x.lines.set j l } ps := by
  intro p n
  have same : x.agrees x p := .refl p
  cases p
  case flags =>
    intro i b
    have h := flags.resolve_left n b
    rw [Quad.get_set]; split
    · subst i; exact h
    · rfl
  case clipped =>
    intro i
    have h := clipped.resolve_left n
    rw [Quad.get_set]; split
    · subst i; exact h
    · rfl
  case scrolls =>
    intro i
    have h := scrolls.resolve_left n
    rw [Quad.get_set]; split
    · subst i; exact h
    · rfl
  all_goals exact same

theorem modLine_line (g : Line → Line) : ((s.modLine f j g).face f).lines.get j = g ((s.face f).lines.get j) := by
  simp [State.modLine]

theorem modLine_line_other (g : Line → Line) (n : i ≠ j) :
    ((s.modLine f j g).face f).lines.get i = (s.face f).lines.get i := by
  simp [State.modLine, Quad.get_set_other _ _ n]

theorem modLine_others (g : Line → Line) : s.othersChangeOnly (s.modLine f j g) f [] := s.modFace_others f _

/-- A line function that changes nothing leaves the state. -/
theorem modLine_id {g : Line → Line} (h : g ((s.face f).lines.get j) = (s.face f).lines.get j) :
    s.modLine f j g = s := by
  have hx : { s.faces.get f with lines := (s.faces.get f).lines.set j (g ((s.faces.get f).lines.get j)) } =
      s.faces.get f := by
    rw [← State.face_eq, h, quad_set_get_self]
  simp only [State.modLine, State.modFace]
  rw [hx, quad_set_get_self]

/-! ### Marks -/

theorem markStale_line (c : Change) :
    ((s.markStale c).face f).lines.get j =
      if s.marks c f (s.face f) j then ((s.face f).lines.get j).stale else (s.face f).lines.get j := by
  have faces : (s.markStale c).face f =
      { s.face f with
        lines := (s.face f).lines.mapIdx fun j l => if s.marks c f (s.face f) j then l.stale else l } :=
    Quad.get_mapIdx _ _ _
  rw [faces, Quad.get_mapIdx]

theorem markStale_stale {c : Change} (h : s.marks c f (s.face f) j = true) : (s.markStale c).staleLine f j := by
  unfold State.staleLine
  rw [markStale_line, if_pos h]
  exact ⟨rfl, rfl⟩

/-- The causes that name one face. -/
def ofFace (f : FaceId) (c : Change) : Prop := c = .rotation f ∨ c = .override f ∨ ∃ j, c = .scrollStep f j

theorem marks_other_face {c : Change} (h : ofFace f c) (n : g ≠ f) : s.marks c g x j = false := by
  obtain rfl | rfl | ⟨i, rfl⟩ := h <;> simp [State.marks, State.reachesRole, n]

/-- A cause that names one face leaves the others. -/
theorem markStale_others {c : Change} (h : ofFace f c) : s.othersChangeOnly (s.markStale c) f [] := by
  intro g n p _
  by_cases hp : p = .flags
  · subst hp
    intro j b
    rw [markStale_line, marks_other_face h n]
    rfl
  · exact s.markStale_parts c g p (by simpa using hp)

/-! ### The end of an event -/

theorem eventChanges_settle (hb : s.changesOnly u (bs ++ settleBlocks)) (hp : s.facesChangeOnly u ps) :
    s.eventChanges u.settle bs ps :=
  ⟨hb.trans (State.settle_frame.mono (List.subset_append_right _ _)),
    (hp.mono (List.subset_cons_self _ _)).trans (State.settle_parts.mono (by simp))⟩

theorem others_settle (h : s.othersChangeOnly u f []) : s.othersChangeOnly u.settle f [.request] :=
  others_trans (others_mono h (by simp)) (others_of_faces State.settle_parts)

/-- The end of an event changes a face in its request state alone. -/
theorem settle_agrees (p : FacePart) (n : p ≠ .request) : (s.face f).agrees (s.settle.face f) p :=
  State.settle_parts f p (by simpa using n)

theorem settle_line : (s.settle.face f).lines.get j = (s.face f).lines.get j :=
  line_eq_of_agrees (settle_agrees _ (by decide)) (settle_agrees _ (by decide)) (settle_agrees _ (by decide))

theorem settle_stale (h : s.staleLine f j) : s.settle.staleLine f j :=
  stale_of_agrees (settle_agrees .flags (by decide)) h

end Sys2Proof.Machine.LineComposition

/-! The follow dwell and page timers (R88 to R91, R154). -/

namespace Sys2Proof.Machine.LineComposition

open Sys2Proof Sys2Proof.Machine

variable {x : Face} {s : State} {f : FaceId}

/-! ### The follow rotation -/

theorem exec_followDwellExpiry : exec (.followDwellExpiry f) s = execFollowDwellExpiry f s := rfl

theorem rotation_parts (r : Rotation) : x.changesOnly { x with rotation := r } [.rotation] := by
  intro p n
  have same : x.agrees x p := .refl p
  cases p
  case rotation => exact absurd (by decide) n
  all_goals exact same

/-- The state after the index of a rotation has moved, before the report (R89). -/
def turned (s : State) (f : FaceId) : State :=
  s.modFace f fun x => { x with rotation := dwellRotation s.timing.followDwell (s.rotationCount x) x.rotation }

theorem followDwellExpiry_stopped (h : (s.face f).rotation.dwell = none) : exec (.followDwellExpiry f) s = .next s := by
  simp [exec_followDwellExpiry, execFollowDwellExpiry, h]

theorem followDwellExpiry_running (h : (s.face f).rotation.dwell.isSome = true) :
    exec (.followDwellExpiry f) s = .next ((turned s f).markStale (.rotation f)).settle := by
  obtain ⟨d, hd⟩ := Option.isSome_iff_exists.1 h
  simp [exec_followDwellExpiry, execFollowDwellExpiry, hd, State.report_rotation, turned]

theorem turned_parts : s.facesChangeOnly (turned s f) [.rotation] := State.modFace_parts (rotation_parts _)

/-- A report of the rotation marks the FOLLOW lines that are composed (R127, R128). -/
theorem marks_rotation {j : LineId} (h : x.showsRole j .follow) : s.marks (.rotation f) f x j = true := by
  obtain ⟨live, line, override, role⟩ := h
  simp [State.marks, State.reachesRole, live, line, override, role]

theorem dwell_running (h : (s.face f).rotation.dwell.isSome = true) :
    ∃ t, exec (.followDwellExpiry f) s = .next t ∧ s.eventChanges t [] [.rotation, .flags] ∧
      s.othersChangeOnly t f [.request] ∧
      (t.face f).rotation =
        ⟨if (s.face f).rotation.index + 1 < s.rotationCount (s.face f) then (s.face f).rotation.index + 1 else 0,
          some s.timing.followDwell⟩ ∧
      ∀ j, (s.face f).showsRole j .follow → t.staleLine f j := by
  refine ⟨_, followDwellExpiry_running h, eventChanges_settle ?_ ?_, others_settle ?_, ?_, fun j shows => ?_⟩
  · exact ((s.modFace_frame f _).mono (by decide)).trans ((State.markStale_frame _).mono (by decide))
  · exact (turned_parts.mono (by decide)).trans ((State.markStale_parts _).mono (by decide))
  · exact others_trans (s.modFace_others f _) (markStale_others (.inl rfl))
  · calc
      _ = (((turned s f).markStale (.rotation f)).face f).rotation := settle_agrees .rotation (by decide)
      _ = ((turned s f).face f).rotation := State.markStale_parts _ f .rotation (by decide)
      _ = _ := by rw [turned, State.modFace_face_same, dwellRotation]
  · have turnedShows : ((turned s f).face f).showsRole j .follow := by
      rw [turned, State.modFace_face_same]
      exact shows
    exact settle_stale (markStale_stale (marks_rotation turnedShows))

/-! ### An order change (R90) -/

theorem report_order_rotation (next : Bool) :
    ((s.report (.order next)).face f).rotation =
      orderRotation (s.face f).live s.timing.followDwell (s.rotationCount (s.face f)) (s.face f).rotation := by
  calc
    _ = ((s.rotateForOrder.handOff (.order next)).face f).rotation := State.markStale_parts _ f .rotation (by decide)
    _ = (s.rotateForOrder.face f).rotation := State.handOff_parts _ f .rotation (by decide)
    _ = _ := by rw [State.rotateForOrder, State.mapFaces_face]

/-- A running rotation keeps an index that has its position, restarts where it has not, and stops without positions. -/
theorem orderRotation_running {live : Bool} {dwell count : Nat} {r : Rotation} (h : r.dwell.isSome = true) :
    (count = 0 → orderRotation live dwell count r = ⟨0, none⟩) ∧
      (r.index < count → orderRotation live dwell count r = r) ∧
      (0 < count → count ≤ r.index → orderRotation live dwell count r = ⟨0, some dwell⟩) := by
  obtain ⟨d, hd⟩ := Option.isSome_iff_exists.1 h
  simp only [orderRotation, hd]
  refine ⟨fun empty => if_pos empty, fun kept => ?_, fun present beyond => ?_⟩
  · rw [if_neg (by omega), if_pos kept]
  · rw [if_neg (by omega), if_neg (by omega), startRotation, if_neg (by omega)]

/-- A stopped rotation starts on a LIVE face and stays on another. -/
theorem orderRotation_stopped {live : Bool} {dwell count : Nat} {r : Rotation} (h : r.dwell = none) :
    (live = true → (orderRotation live dwell count r).startsOver dwell count) ∧
      (live = false → orderRotation live dwell count r = r) := by
  simp only [orderRotation, h]
  exact ⟨fun l => by rw [if_pos l]; rfl, fun l => by simp [l]⟩

/-! ### Pages (R154) -/

theorem exec_pageTimerExpiry : exec (.pageTimerExpiry f) s = execPageTimerExpiry f s := rfl

theorem paging_parts (page : Nat) (timer : Timer) :
    x.changesOnly { x with page := page, pageTimer := timer } [.paging] := by
  intro p n
  have same : x.agrees x p := .refl p
  cases p
  case paging => exact absurd (by decide) n
  all_goals exact same

/-- The state after the page index has moved, before the report (R154). -/
def paged (s : State) (f : FaceId) : State :=
  s.modFace f fun x =>
    { x with page := nextPage (s.face f).page (s.pagesOf (s.face f)), pageTimer := some s.timing.pageDwell }

theorem paged_face :
    (paged s f).face f =
      { s.face f with
        page := nextPage (s.face f).page (s.pagesOf (s.face f)), pageTimer := some s.timing.pageDwell } :=
  s.modFace_face_same f _

theorem paged_parts : s.facesChangeOnly (paged s f) [.paging] := State.modFace_parts (paging_parts _ _)

theorem turnPage_same (h : nextPage (s.face f).page (s.pagesOf (s.face f)) = (s.face f).page) :
    s.turnPage f = paged s f := if_pos h

theorem turnPage_changed (h : nextPage (s.face f).page (s.pagesOf (s.face f)) ≠ (s.face f).page) :
    s.turnPage f = (paged s f).markStale (.override f) := if_neg h

theorem turnPage_frame : s.changesOnly (s.turnPage f) [.faces, .engine] := by
  have moved : s.changesOnly (paged s f) [.faces, .engine] := (s.modFace_frame f _).mono (by decide)
  exact .ite moved (moved.trans (State.markStale_frame _))

theorem turnPage_parts : s.facesChangeOnly (s.turnPage f) [.flags, .paging] := by
  have moved : s.facesChangeOnly (paged s f) [.flags, .paging] := paged_parts.mono (by decide)
  exact .ite moved (moved.trans ((State.markStale_parts _).mono (by decide)))

theorem turnPage_others : s.othersChangeOnly (s.turnPage f) f [] := by
  have moved : s.othersChangeOnly (paged s f) f [] := s.modFace_others f _
  by_cases h : nextPage (s.face f).page (s.pagesOf (s.face f)) = (s.face f).page
  · exact turnPage_same h ▸ moved
  · exact turnPage_changed h ▸ others_trans moved (markStale_others (.inr (.inl rfl)))

/-- The index and the timer are those of the move, whether or not it is reported. -/
theorem turnPage_paging :
    ((s.turnPage f).face f).page = nextPage (s.face f).page (s.pagesOf (s.face f)) ∧
      ((s.turnPage f).face f).pageTimer = some s.timing.pageDwell := by
  have moved : ((paged s f).face f).agrees ((s.turnPage f).face f) .paging := by
    by_cases h : nextPage (s.face f).page (s.pagesOf (s.face f)) = (s.face f).page
    · exact turnPage_same h ▸ .refl _
    · exact turnPage_changed h ▸ State.markStale_parts _ f .paging (by decide)
  rw [moved.1, moved.2, paged_face]
  exact ⟨rfl, rfl⟩

/-- A change of an override's report marks every existing line of its LIVE face. -/
theorem marks_override {j : LineId} (live : x.live = true) (line : x.hasLine j = true) :
    s.marks (.override f) f x j = true := by
  simp [State.marks, State.reachesRole, Change.roleOnly, live, line]

theorem page_running (h : (s.face f).pageTimer.isSome = true) :
    ∃ t, exec (.pageTimerExpiry f) s = .next t ∧ s.eventChanges t [] [.flags, .paging] ∧
      s.othersChangeOnly t f [.request] ∧ (t.face f).pageTimer = some s.timing.pageDwell ∧
      (t.face f).page = (if (s.face f).page + 1 < s.pagesOf (s.face f) then (s.face f).page + 1 else 0) ∧
      ((t.face f).page = (s.face f).page → (s.face f).agrees (t.face f) .flags) ∧
      ((t.face f).page ≠ (s.face f).page →
        ∀ j, (s.face f).live = true → (s.face f).hasLine j = true → t.staleLine f j) := by
  obtain ⟨d, hd⟩ := Option.isSome_iff_exists.1 h
  have run : exec (.pageTimerExpiry f) s = .next (s.turnPage f).settle := by
    simp [exec_pageTimerExpiry, execPageTimerExpiry, hd]
  obtain ⟨page, timer⟩ := turnPage_paging (s := s) (f := f)
  obtain ⟨settledPage, settledTimer⟩ := settle_agrees (s := s.turnPage f) (f := f) .paging (by decide)
  rw [page] at settledPage
  refine ⟨_, run, eventChanges_settle (turnPage_frame.mono (by decide)) turnPage_parts, others_settle turnPage_others,
    settledTimer.trans timer, settledPage, fun same => ?_, fun moved j live line => ?_⟩
  · have kept := turnPage_same (settledPage.symm.trans same)
    have flags : (s.face f).agrees ((s.turnPage f).face f) .flags := kept ▸ paged_parts f .flags (by decide)
    exact flags.trans (settle_agrees _ (by decide))
  · have marked := turnPage_changed fun same => moved (settledPage.trans same)
    rw [marked]
    exact settle_stale (markStale_stale (marks_override (by rwa [paged_face]) (by rwa [paged_face])))

/-- Settles O23: the two expiries, and the rotation of a face after an order change, running or stopped. -/
theorem dwellTimersTurnThePage : Obligations.DwellTimersTurnThePage := by
  intro s f
  refine ⟨followDwellExpiry_stopped, dwell_running, rfl, ?_,
    fun stopped => by simp [exec_pageTimerExpiry, execPageTimerExpiry, stopped], page_running⟩
  rintro next after count rfl rfl
  rw [report_order_rotation]
  exact ⟨orderRotation_running, orderRotation_stopped⟩

end Sys2Proof.Machine.LineComposition

/-! The step and gap timers of the scroll areas, and what the reports make of an area (R101 to R112). -/

namespace Sys2Proof.Machine.LineComposition

open Sys2Proof Sys2Proof.Machine

variable {x : Face} {s : State} {f : FaceId} {i j : LineId}

/-! ### The expiries -/

theorem exec_stepTimerExpiry : exec (.stepTimerExpiry f j) s = execStepTimerExpiry f j s := rfl

/-- The scroll state of line `j` replaced. -/
def scrolled (s : State) (f : FaceId) (j : LineId) (g : Scroll → Scroll) : State :=
  s.modLine f j fun l => { l with scroll := g l.scroll }

theorem scrolled_parts (g : Scroll → Scroll) : s.facesChangeOnly (scrolled s f j g) [.scrolls] :=
  State.modFace_parts (setLine_parts _ (.inr fun b => by cases b <;> rfl) (.inr rfl) (.inl (by decide)))

theorem scrolled_frame (g : Scroll → Scroll) : s.changesOnly (scrolled s f j g) [.faces] := s.modLine_frame f j _

theorem scrolled_scroll (g : Scroll → Scroll) :
    (((scrolled s f j g).face f).lines.get j).scroll = g ((s.face f).lines.get j).scroll := by
  rw [scrolled, modLine_line]

theorem scrolled_line_other (g : Scroll → Scroll) (n : i ≠ j) :
    ((scrolled s f j g).face f).lines.get i = (s.face f).lines.get i := modLine_line_other _ n

/-- The state before the report of a step (R107). -/
def stepped (s : State) (f : FaceId) (j : LineId) : State :=
  scrolled s f j (stepScroll s.timing.passGap (stepInterval (s.face f).record.speed))

theorem stepTimerExpiry_stopped (h : ((s.face f).lines.get j).scroll.inPass = false) :
    exec (.stepTimerExpiry f j) s = .next s := by
  simp [exec_stepTimerExpiry, execStepTimerExpiry, h]

theorem stepTimerExpiry_running (h : ((s.face f).lines.get j).scroll.inPass = true) :
    exec (.stepTimerExpiry f j) s = .next ((stepped s f j).markStale (.scrollStep f j)).settle := by
  simp [exec_stepTimerExpiry, execStepTimerExpiry, h, State.report_scrollStep, stepped, scrolled]

theorem gapTimerExpiry_eq :
    exec (.gapTimerExpiry f j) s = .next (scrolled s f j (gapScroll (stepInterval (s.face f).record.speed))) := rfl

theorem gapScroll_of_ne_gap {k : Nat} {sc : Scroll} (h : ∀ w wa g, sc ≠ .gap w wa g) : gapScroll k sc = sc := by
  cases sc with
  | gap w wa g => exact absurd rfl (h w wa g)
  | idle | still | pass => rfl

theorem gapTimerExpiry_stopped (h : ∀ w wa g, ((s.face f).lines.get j).scroll ≠ .gap w wa g) :
    exec (.gapTimerExpiry f j) s = .next s := by
  rw [gapTimerExpiry_eq, scrolled, modLine_id (by rw [gapScroll_of_ne_gap h])]

/-- A step marks its line, where the line is composed from its role (R127, R128). -/
theorem marks_scrollStep {r : Role} (h : x.showsRole j r) : s.marks (.scrollStep f j) f x j = true := by
  obtain ⟨live, line, override, -⟩ := h
  simp [State.marks, State.reachesRole, live, line, override]

/-- A step marks no other line. -/
theorem marks_scrollStep_other (n : i ≠ j) : s.marks (.scrollStep f j) f x i = false := by
  simp [State.marks, State.reachesRole, n]

theorem markStale_scroll (c : Change) :
    (((s.markStale c).face f).lines.get j).scroll = ((s.face f).lines.get j).scroll :=
  State.markStale_parts c f .scrolls (by decide) j

theorem stepScroll_pass {passGap k w wa n k₀ wait : Nat} :
    stepScroll passGap k (.pass w wa n k₀ wait) =
      if n + 1 < w + wa then .pass w wa (n + 1) k₀ (stepWait k₀ (n + 2)) else enterGap passGap w wa k := rfl

theorem step_running {w wa n k wait : Nat} (h : ((s.face f).lines.get j).scroll = .pass w wa n k wait) :
    ∃ t, exec (.stepTimerExpiry f j) s = .next t ∧ s.eventChanges t [] [.scrolls, .flags] ∧
      s.othersChangeOnly t f [.request] ∧
      (∀ i, i ≠ j → (t.face f).lines.get i = (s.face f).lines.get i) ∧
      (n + 1 < w + wa → ((t.face f).lines.get j).scroll = .pass w wa (n + 1) k (stepWait k (n + 2))) ∧
      (w + wa ≤ n + 1 → s.timing.passGap ≠ 0 →
        ((t.face f).lines.get j).scroll = .gap w wa (2 * s.timing.passGap)) ∧
      (w + wa ≤ n + 1 → s.timing.passGap = 0 →
        ∃ k', k' = (8000 + (s.face f).record.speed) / (2 * (s.face f).record.speed) ∧
          ((t.face f).lines.get j).scroll = .pass w wa 0 k' (stepWait k' 1)) ∧
      ∀ r, (s.face f).showsRole j r → t.staleLine f j := by
  have after : ((((stepped s f j).markStale (.scrollStep f j)).settle.face f).lines.get j).scroll =
      stepScroll s.timing.passGap (stepInterval (s.face f).record.speed) (.pass w wa n k wait) := by
    rw [settle_line, markStale_scroll, stepped, scrolled_scroll, h]
  refine ⟨_, stepTimerExpiry_running (by rw [h]; rfl), eventChanges_settle ?_ ?_, others_settle ?_, fun i other => ?_,
    fun more => ?_, fun last gap => ?_, fun last gap => ⟨_, rfl, ?_⟩, fun r shows => ?_⟩
  · exact ((scrolled_frame _).mono (by decide)).trans ((State.markStale_frame _).mono (by decide))
  · exact ((scrolled_parts _).mono (by decide)).trans ((State.markStale_parts _).mono (by decide))
  · exact others_trans (modLine_others _) (markStale_others (.inr (.inr ⟨j, rfl⟩)))
  · rw [settle_line, markStale_line, marks_scrollStep_other other]
    exact scrolled_line_other _ other
  · rw [after, stepScroll_pass, if_pos more]
  · rw [after, stepScroll_pass, if_neg (by omega), enterGap, if_neg gap]
  · rw [after, stepScroll_pass, if_neg (by omega), enterGap, if_pos gap]
    rfl
  · have steppedShows : ((stepped s f j).face f).showsRole j r := by
      rw [stepped, scrolled, State.modLine, State.modFace_face_same]
      exact shows
    exact settle_stale (markStale_stale (marks_scrollStep steppedShows))

theorem gap_running {w wa g : Nat} (h : ((s.face f).lines.get j).scroll = .gap w wa g) :
    ∃ t k, exec (.gapTimerExpiry f j) s = .next t ∧ s.changesOnly t [.faces] ∧ s.facesChangeOnly t [.scrolls] ∧
      k = (8000 + (s.face f).record.speed) / (2 * (s.face f).record.speed) ∧
      ((t.face f).lines.get j).scroll = .pass w wa 0 k (stepWait k 1) ∧
      (∀ i, i ≠ j → (t.face f).lines.get i = (s.face f).lines.get i) ∧ s.othersChangeOnly t f [] :=
  ⟨_, _, gapTimerExpiry_eq, scrolled_frame _, scrolled_parts _, rfl, by rw [scrolled_scroll, h]; rfl,
    fun _ other => scrolled_line_other _ other, modLine_others _⟩

/-! ### The measures of an area (R101, R102) -/

theorem measureArea_absent (h : x.live = false ∨ x.hasLine j = false) : s.measureArea x j = none := by
  rcases h with h | h <;> simp [State.measureArea, State.areaText, h]

/-- The CALLS text that an area measures is the one its line would show with no override before it. -/
theorem lineContent_calls (role : x.record.roles.get j = .calls) :
    s.lineContent { x with overrides := [] } j = s.callsContent x.record.callTimes := by
  simp [State.lineContent, Face.currentOverride, State.roleContent, role]

section Present

variable (live : x.live = true) (line : x.hasLine j = true)
include live line

theorem measureArea_other (notCalls : x.record.roles.get j ≠ .calls) (notNotice : x.record.roles.get j ≠ .notice) :
    s.measureArea x j = none := by
  cases role : x.record.roles.get j with
  | calls => exact absurd role notCalls
  | notice => exact absurd role notNotice
  | head | follow | blank => simp [State.measureArea, State.areaText, live, line, role]

theorem measureArea_calls (role : x.record.roles.get j = .calls) :
    (∀ text, s.lineContent { x with overrides := [] } j = .scrolling text →
        s.measureArea x j = some (measure s.glyphs text, x.width)) ∧
      (s.lineContent { x with overrides := [] } j = .empty → s.measureArea x j = none) := by
  rw [lineContent_calls role]
  exact ⟨fun text h => by simp [State.measureArea, State.areaText, live, line, role, h],
    fun h => by simp [State.measureArea, State.areaText, live, line, role, h]⟩

theorem measureArea_notice (role : x.record.roles.get j = .notice) :
    s.measureArea x j =
      (s.noticeText x).map fun t => (measure s.glyphs t, noticeArea s.glyphs x.width s.clockField) := by
  simp [State.measureArea, State.areaText, live, line, role, Function.comp_def]

end Present

theorem noticeText_none (h : x.holds .stationNotice = false ∨ s.texts.notice = []) : s.noticeText x = none := by
  rcases h with h | h <;> simp [State.noticeText, h, textOrAbsent]

theorem textOrAbsent_of_ne_nil {t : Text} (h : t ≠ []) : textOrAbsent t = some t := by
  cases t with
  | nil => exact absurd rfl h
  | cons c t => rfl

theorem noticeText_some (held : x.holds .stationNotice = true) (text : s.texts.notice ≠ []) :
    s.noticeText x = some s.texts.notice := by
  rw [State.noticeText, if_pos held, textOrAbsent_of_ne_nil text]

/-- The width left of the clock, and of the 4 columns before it (R101). -/
theorem noticeArea_clockField (wl : Nat) :
    noticeArea s.glyphs wl s.clockField =
      if s.clock.valid = true then wl - 4 - measure s.glyphs (clockText s.clock) else wl := by
  rw [State.clockField]
  split
  · exact Nat.sub_right_comm _ _ _
  · rfl

/-! ### Step waits (R106) -/

theorem stepWait_even {k : Nat} (h : k % 2 = 0) (i : Nat) : stepWait k i = k / 2 := if_pos h

theorem stepWait_odd {k : Nat} (h : k % 2 = 1) (i : Nat) :
    stepWait k i = if i % 2 = 1 then (k + 1) / 2 else (k - 1) / 2 := if_neg (by omega)

theorem stepWait_successive (k i : Nat) :
    stepWait k i + stepWait k (i + 1) = k ∧ stepWait k i ≤ stepWait k (i + 1) + 1 ∧
      stepWait k (i + 1) ≤ stepWait k i + 1 := by
  rcases Nat.mod_two_eq_zero_or_one k with even | odd
  · rw [stepWait_even even, stepWait_even even]
    omega
  · rw [stepWait_odd odd, stepWait_odd odd]
    rcases Nat.mod_two_eq_zero_or_one i with first | second
    · rw [if_neg (by omega), if_pos (by omega)]
      omega
    · rw [if_pos second, if_neg (by omega)]
      omega

/-! ### What a report makes of an area (R94, R104, R111, R112) -/

theorem startsArea_iff {c : Change} {r : Role} : c.startsArea r = true ↔ c = .order true ∧ r = .calls := by
  cases c with
  | order next => simp [Change.startsArea]
  | _ => simp [Change.startsArea]

/-- A report that can start an area hands no text. -/
theorem handsText_of_startsArea {c : Change} {r : Role} (h : c.startsArea r = true) : s.handsText c f x j = false := by
  obtain ⟨rfl, -⟩ := startsArea_iff.1 h
  rfl

theorem startAreas_scroll (which : FaceId → Face → LineId → Bool) :
    (((s.startAreas which).face f).lines.get j).scroll =
      if which f (s.face f) j then
        startScroll (stepInterval (s.face f).record.speed) (s.measureArea (s.face f) j)
      else ((s.face f).lines.get j).scroll := by
  simp only [State.startAreas, State.mapFaces_face, Face.modScrolls, Quad.get_mapIdx]
  split <;> rfl

theorem handText_scroll (which : FaceId → Face → LineId → Bool) :
    (((s.handText which).face f).lines.get j).scroll =
      if which f (s.face f) j then
        changedScroll s.timing.passGap (stepInterval (s.face f).record.speed) ((s.face f).lines.get j).scroll
          (s.measureArea (s.face f) j)
      else ((s.face f).lines.get j).scroll := by
  simp only [State.handText, State.mapFaces_face, Face.modScrolls, Quad.get_mapIdx]
  split <;> rfl

/-- What a hand-off makes of the scroll state of line `j` of a face, from that of the moment: the area is started, or
takes the changed text, or stays (R94). -/
def handed (s : State) (c : Change) (f : FaceId) (x : Face) (j : LineId) : Scroll :=
  if c.startsArea (x.record.roles.get j) then startScroll (stepInterval x.record.speed) (s.measureArea x j)
  else if s.handsText c f x j then
    changedScroll s.timing.passGap (stepInterval x.record.speed) (x.lines.get j).scroll (s.measureArea x j)
  else (x.lines.get j).scroll

theorem handOff_scroll (c : Change) : (((s.handOff c).face f).lines.get j).scroll = handed s c f (s.face f) j := by
  let u := s.startAreas fun _ x j => c.startsArea (x.record.roles.get j)
  have started : ((u.face f).lines.get j).scroll =
      if c.startsArea ((s.face f).record.roles.get j) then
        startScroll (stepInterval (s.face f).record.speed) (s.measureArea (s.face f) j)
      else ((s.face f).lines.get j).scroll := startAreas_scroll _
  have face : u.face f = (s.face f).modScrolls (fun j => c.startsArea ((s.face f).record.roles.get j)) fun j _ =>
      startScroll (stepInterval (s.face f).record.speed) (s.measureArea (s.face f) j) := s.mapFaces_face _ f
  have sameHand : s.handsText c f (u.face f) j = s.handsText c f (s.face f) j := by rw [face]; rfl
  have sameMeasure : u.measureArea (u.face f) j = s.measureArea (s.face f) j := by rw [face]; rfl
  have sameSpeed : (u.face f).record.speed = (s.face f).record.speed := by rw [face]; rfl
  have taken : (((s.handOff c).face f).lines.get j).scroll =
      if s.handsText c f (u.face f) j then
        changedScroll s.timing.passGap (stepInterval (u.face f).record.speed) ((u.face f).lines.get j).scroll
          (u.measureArea (u.face f) j)
      else ((u.face f).lines.get j).scroll := handText_scroll _
  rw [taken, started, sameHand, sameMeasure, sameSpeed, handed]
  by_cases start : c.startsArea ((s.face f).record.roles.get j) = true
  · simp only [handsText_of_startsArea start, start, if_true, Bool.false_eq_true, if_false]
  · simp only [start, if_false, Bool.false_eq_true]

/-- An order change hands the areas over after the rotations have moved, which no area reads. -/
theorem report_scroll (c : Change) :
    (((s.report c).face f).lines.get j).scroll = handed s c f (s.face f) j := by
  cases c with
  | order next =>
    calc
      _ = (((s.rotateForOrder.handOff (.order next)).face f).lines.get j).scroll := markStale_scroll _
      _ = handed s.rotateForOrder (.order next) f (s.rotateForOrder.face f) j := handOff_scroll _
      _ = _ := by rw [State.rotateForOrder, State.mapFaces_face]; rfl
  | _ => exact (markStale_scroll _).trans (handOff_scroll _)

/-! ### Which areas are handed a changed text -/

theorem shows_calls {slot : Nat} :
    s.shows x .calls slot = true ↔ ∃ v, s.nextService = some v ∧ slot = v.slot := by
  have shown : s.shownService x .calls = s.nextService := rfl
  cases h : s.nextService <;> simp [State.shows, shown, h, eq_comm (a := slot)]

theorem showsPlace_calls {id : Nat} :
    s.showsPlace x .calls id = true ↔
      ∃ v, s.nextService = some v ∧ (id ∈ v.dests ∨ ∃ e ∈ v.activeEntries, e.place = id) := by
  have shown : s.shownService x .calls = s.nextService := rfl
  cases h : s.nextService <;> simp [State.showsPlace, shown, h]

theorem handsText_iff {c : Change} : s.handsText c f (s.face f) j = true ↔ s.changesText c f j := by
  by_cases role : (s.face f).record.roles.get j = .calls
  · cases c with
    | service slot | close slot | strikeMarks slot =>
      simp [State.handsText, State.changesText, State.reachesRole, role, shows_calls]
    | place id => simp [State.handsText, State.changesText, State.reachesRole, role, showsPlace_calls]
    | notice g => simp [State.handsText, State.changesText, role]
    | _ => simp [State.handsText, State.changesText, role]
  · cases c with
    | notice g => simp [State.handsText, State.changesText, role, eq_comm (a := f), and_comm]
    | _ => simp [State.handsText, State.changesText, State.reachesRole, role]

/-- A hand-off of a report by the tables of R104 and R111. -/
theorem report_hands (c : Change) {after : Scroll} {k : Nat}
    (hafter : after = (((s.report c).face f).lines.get j).scroll)
    (hk : k = stepInterval (s.face f).record.speed) :
    (c = .order true → (s.face f).record.roles.get j = .calls → after.startsWith k (s.measureArea (s.face f) j)) ∧
      (s.changesText c f j →
        ((s.face f).lines.get j).scroll.takesText after s.timing.passGap k (s.measureArea (s.face f) j)) ∧
      (¬(c = .order true ∧ (s.face f).record.roles.get j = .calls) → ¬s.changesText c f j →
        after = ((s.face f).lines.get j).scroll) := by
  rw [report_scroll, handed] at hafter
  rw [← handsText_iff, ← startsArea_iff, takesText_iff, startsWith_iff, hafter, hk]
  refine ⟨fun order role => if_pos (startsArea_iff.2 ⟨order, role⟩), fun hand => ?_, fun start hand => ?_⟩
  · have start : ¬c.startsArea ((s.face f).record.roles.get j) = true := fun h => by
      simp [handsText_of_startsArea h] at hand
    rw [if_neg start, if_pos hand]
  · rw [if_neg start, if_neg hand]

/-- Settles O24: the two expiries, the measures of an area, the waits of its steps and what each report makes of it. -/
theorem scrollTimersAdvance : Obligations.ScrollTimersAdvance := by
  intro s f j
  refine ⟨stepTimerExpiry_stopped, gapTimerExpiry_stopped, fun _ _ _ _ _ => step_running, fun _ _ _ => gap_running,
    fun x => ⟨measureArea_absent, fun live line => ⟨measureArea_other live line, measureArea_calls live line,
      fun role => ⟨fun h => ?_, fun held text => ?_⟩⟩⟩, stepWait_successive, ?_⟩
  · rw [measureArea_notice live line role, noticeText_none h]
    rfl
  · rw [measureArea_notice live line role, noticeText_some held text, noticeArea_clockField]
    rfl
  · rintro c before after k rfl hafter hk
    exact report_hands c hafter hk

end Sys2Proof.Machine.LineComposition

/-! The wake (R168 to R170): its request, its end in FAULTED and its end in LIVE. -/

namespace Sys2Proof.Machine.LineComposition

open Sys2Proof Sys2Proof.Machine

variable {x y : Face} {s t u : State} {f : FaceId} {j : LineId}

theorem exec_settleTimerExpiry : exec (.settleTimerExpiry f) s = execSettleTimerExpiry f s := rfl

theorem exec_wakeTimerExpiry : exec (.wakeTimerExpiry f) s = execWakeTimerExpiry f s := rfl

theorem exec_ready {panel width lines : Nat} : exec (.ready panel width lines) s = execReady panel width lines s := rfl

theorem panel_parts (p : Panel) : x.changesOnly { x with panel := p } [.panel] := by
  intro q n
  have same : x.agrees x q := .refl q
  cases q
  case panel => exact absurd (by decide) n
  all_goals exact same

theorem modPanel_parts (g : Panel → Panel) : s.facesChangeOnly (s.modPanel f g) [.panel] :=
  State.modFace_parts (panel_parts _)

theorem modPanel_panel (g : Panel → Panel) : ((s.modPanel f g).face f).panel = g (s.face f).panel := by
  rw [State.modPanel, State.modFace_face_same]

theorem modPanel_others (g : Panel → Panel) : s.othersChangeOnly (s.modPanel f g) f [] := s.modFace_others f _

theorem ask_parts (m : SupMsg) : s.facesChangeOnly (s.ask m) [] := .of_faces rfl

theorem post_parts (n : Notice) : s.facesChangeOnly (s.post n) [] := .of_faces rfl

/-! ### The settle timer (R168, step 2) -/

/-- What leaves a list by `splitFirst` is the thing taken alone. -/
theorem splitFirst_mem {α : Type} {p : α → Bool} {l rest : List α} {a b : α} (h : splitFirst p l = some (b, rest))
    (mem : a ∈ l) : a = b ∨ a ∈ rest := by
  induction l generalizing rest with
  | nil => exact absurd mem List.not_mem_nil
  | cons c l ih =>
    rw [splitFirst] at h
    by_cases hc : p c = true
    · obtain ⟨rfl, rfl⟩ : c = b ∧ l = rest := by simpa [hc] using h
      exact List.mem_cons.1 mem
    · rcases later : splitFirst p l with _ | ⟨d, rest'⟩
      · simp [hc, later] at h
      · obtain ⟨rfl, rfl⟩ : d = b ∧ c :: rest' = rest := by simpa [hc, later] using h
        rcases List.mem_cons.1 mem with rfl | mem
        · exact .inr List.mem_cons_self
        · exact (ih later mem).imp_right (List.mem_cons_of_mem _)

theorem grantNext_waiting : s.grantNext.link.waiting = s.link.waiting := by
  unfold State.grantNext
  split <;> rfl

/-- A waiting message is given the transmitter, or waits on (R149). -/
theorem giveTransmitter_waiting {m : SupMsg} (h : m ∈ s.link.waiting) :
    m ∈ s.giveTransmitter.link.waiting ∨ s.giveTransmitter.link.tx = .sending (s.supMessage m) (some m.owner) := by
  unfold State.giveTransmitter
  split
  · split
    · rename_i first rest taken
      rcases splitFirst_mem taken h with rfl | kept
      · exact .inr rfl
      · exact .inl kept
    · split <;> exact .inl h
  · exact .inl h

theorem settle_waiting {m : SupMsg} (h : m ∈ s.link.waiting) :
    m ∈ s.settle.link.waiting ∨
      s.settle.link.tx = .sending (s.raiseRequests.grantNext.supMessage m) (some m.owner) :=
  giveTransmitter_waiting (grantNext_waiting (s := s.raiseRequests) ▸ h)

theorem settleTimer_running (h : (s.face f).panel.settle.isSome = true) :
    ∃ t, exec (.settleTimerExpiry f) s = .next t ∧ s.eventChanges t [] [.panel] ∧ s.othersChangeOnly t f [.request] ∧
      (t.face f).panel = { (s.face f).panel with settle := none, step := some .awaitingReady } ∧
      (⟨f, false, (s.face f).record.panelId, .wake⟩ ∈ t.link.waiting ∨
        t.link.tx = .sending (.wake (s.face f).record.panelId) (some (.face f))) := by
  obtain ⟨d, hd⟩ := Option.isSome_iff_exists.1 h
  let awaiting := s.modPanel f fun p => { p with settle := none, step := some .awaitingReady }
  let asked := awaiting.ask ⟨f, false, (s.face f).record.panelId, .wake⟩
  have run : exec (.settleTimerExpiry f) s = .next asked.settle := by
    simp [exec_settleTimerExpiry, execSettleTimerExpiry, hd, asked, awaiting]
  refine ⟨_, run, eventChanges_settle ?_ ?_, others_settle ?_, ?_, ?_⟩
  · exact ((s.modPanel_frame f _).mono (by decide)).trans ((State.ask_frame _).mono (by decide))
  · exact (modPanel_parts _).trans ((ask_parts _).mono (by decide))
  · exact others_trans (modPanel_others _) (others_of_faces (ask_parts _))
  · calc
      _ = (asked.face f).panel := settle_agrees .panel (by decide)
      _ = (awaiting.face f).panel := rfl
      _ = _ := modPanel_panel _
  · exact settle_waiting (s := asked) (List.mem_append_right _ List.mem_cons_self)

/-! ### The wake timer (R170) -/

theorem setMode_parts (m : PanelMode) (c : Cause) : s.facesChangeOnly (s.setMode f m c) [.panel] :=
  (modPanel_parts _).trans ((post_parts _).mono (by decide))

theorem setMode_others (m : PanelMode) (c : Cause) : s.othersChangeOnly (s.setMode f m c) f [] :=
  others_trans (modPanel_others _) (others_of_faces (post_parts _))

theorem setMode_panel (m : PanelMode) (c : Cause) :
    ((s.setMode f m c).face f).panel = { (s.face f).panel with mode := m, cause := c } := by
  rw [State.setMode, State.post_face, modPanel_panel]

theorem wakeTimer_running (h : (s.face f).panel.wake.isSome = true) :
    ∃ t, exec (.wakeTimerExpiry f) s = .next t ∧ s.eventChanges t [.notices] [.panel] ∧
      s.othersChangeOnly t f [.request] ∧
      (t.face f).panel =
        { (s.face f).panel with mode := .faulted, cause := .noAnswer, power := false, step := none, wake := none } ∧
      t.notices = postNotice (.faceState f .faulted .noAnswer) s.notices := by
  obtain ⟨d, hd⟩ := Option.isSome_iff_exists.1 h
  let cut := s.modPanel f fun p => { p with wake := none, step := none, power := false }
  let faulted := cut.setMode f .faulted .noAnswer
  have run : exec (.wakeTimerExpiry f) s = .next faulted.settle := by
    simp [exec_wakeTimerExpiry, execWakeTimerExpiry, hd, faulted, cut]
  refine ⟨_, run, eventChanges_settle ?_ ?_, others_settle ?_, ?_, State.settle_frame .notices (by decide)⟩
  · exact ((s.modPanel_frame f _).mono (by decide)).trans ((State.setMode_frame f _ _).mono (by decide))
  · exact (modPanel_parts _).trans (setMode_parts _ _)
  · exact others_trans (modPanel_others _) (setMode_others _ _)
  · calc
      _ = (faulted.face f).panel := settle_agrees .panel (by decide)
      _ = { (cut.face f).panel with mode := .faulted, cause := .noAnswer } := setMode_panel _ _
      _ = _ := by rw [modPanel_panel]

/-! ### The steps of READY (R169) -/

/-- The face table, panel and brightness of a face that becomes LIVE (R169, steps 1 to 3). -/
def liveFace (x : Face) (g : Geometry) (rampStep : Nat) : Face :=
  { x with
    record := { x.record with geometry := some g, shown := .b0 }
    lines := x.lines.map fun _ => Line.initial
    panel :=
      { x.panel with
        mode := .live, cause := .none, step := none, settle := none, wake := none, ambient := none, awaiting := none
        poll := some 1000 }
    bright := { x.bright with present := 0, ramp := some rampStep } }

/-- The same face with its rotation and its pages started (R91, R154). -/
def startedFace (s : State) (x : Face) (g : Geometry) : Face :=
  { liveFace x g s.timing.rampStep with
    rotation := startRotation s.timing.followDwell (s.rotationCount x) }.restartPage s.timing.pageDwell

/-- The state after the first steps of READY: the face is LIVE with its size, and its messages are dropped. -/
def sized (s : State) (f : FaceId) (g : Geometry) : State :=
  (s.dropMessages f).modFace f fun x => liveFace x g s.timing.rampStep

/-- The state before its areas are started. -/
def waked (s : State) (f : FaceId) (g : Geometry) : State :=
  (sized s f g).modFace f fun x =>
    { x with rotation := startRotation s.timing.followDwell ((sized s f g).rotationCount x) }.restartPage
      s.timing.pageDwell

/-- The state with its areas started (R104). -/
def withAreas (s : State) (f : FaceId) (g : Geometry) : State := (waked s f g).startAreas fun h _ _ => h == f

theorem becomeLive_eq (g : Geometry) :
    s.becomeLive f g = ((withAreas s f g).judgeReport f).post (.faceState f .live .none) := rfl

theorem dropMessages_face (g : FaceId) : (s.dropMessages f).face g = s.face g := rfl

theorem waked_face (g : Geometry) : (waked s f g).face f = startedFace s (s.face f) g := by
  rw [waked, State.modFace_face_same, sized, State.modFace_face_same, dropMessages_face]
  rfl

theorem startedFace_parts (g : Geometry) :
    x.changesOnly (startedFace s x g) (.geometry :: .shown :: darkParts) := by
  intro p n
  have same : x.agrees x p := .refl p
  cases p
  case geometry | shown | flags | clipped | scrolls | rotation | paging | panel | bright => exact absurd (by decide) n
  all_goals exact same

theorem sized_others (g : Geometry) : s.othersChangeOnly (sized s f g) f [] :=
  others_trans (others_of_faces (.of_faces rfl)) (State.modFace_others f _)

theorem waked_others (g : Geometry) : s.othersChangeOnly (waked s f g) f [] :=
  others_trans (sized_others g) (State.modFace_others f _)

theorem waked_parts (g : Geometry) : s.facesChangeOnly (waked s f g) (.geometry :: .shown :: darkParts) := by
  intro h
  by_cases same : h = f
  · subst same
    rw [waked_face]
    exact startedFace_parts g
  · exact (waked_others g h same).mono (by simp)

theorem withAreas_parts (g : Geometry) : (waked s f g).facesChangeOnly (withAreas s f g) [.scrolls] :=
  State.startAreas_parts _

theorem withAreas_others (g : Geometry) : (waked s f g).othersChangeOnly (withAreas s f g) f [] := by
  intro h n
  have kept : (withAreas s f g).face h = (waked s f g).face h := by
    rw [withAreas, State.startAreas, State.mapFaces_face, beq_eq_false_iff_ne.2 n, Face.modScrolls_none]
  rw [kept]
  exact .refl

theorem withAreas_scroll (g : Geometry) :
    (((withAreas s f g).face f).lines.get j).scroll =
      startScroll (stepInterval (s.face f).record.speed) ((waked s f g).measureArea ((waked s f g).face f) j) := by
  have speed : ((waked s f g).face f).record.speed = (s.face f).record.speed := waked_parts g f .speed (by decide)
  rw [withAreas, startAreas_scroll, if_pos (beq_self_eq_true f), speed]

/-! ### The pending report (R178) -/

theorem bright_parts (b : Brightness) : x.changesOnly { x with bright := b } [.bright] := by
  intro p n
  have same : x.agrees x p := .refl p
  cases p
  case bright => exact absurd (by decide) n
  all_goals exact same

theorem judgeReport_parts : s.facesChangeOnly (s.judgeReport f) [.bright] :=
  .ite ((State.modFace_parts (f := f) (bright_parts _)).trans ((post_parts _).mono (by decide))) .refl

theorem judgeReport_others : s.othersChangeOnly (s.judgeReport f) f [] := by
  unfold State.judgeReport
  dsimp only
  split
  · exact others_trans (s.modFace_others f _) (others_of_faces (post_parts _))
  · exact others_of_faces .refl

theorem judgeReport_live (live : (s.face f).live = true) :
    ((s.judgeReport f).face f).bright =
        { (s.face f).bright with
          report := if (s.face f).bright.report = some (s.face f).bright.present then none
            else (s.face f).bright.report } ∧
      (s.judgeReport f).notices =
        if (s.face f).bright.report = some (s.face f).bright.present then
          postNotice (.levelReached f (s.face f).bright.present) s.notices
        else s.notices := by
  by_cases due : (s.face f).bright.report = some (s.face f).bright.present
  · have reported : s.judgeReport f =
        (s.modFace f fun x => { x with bright := { x.bright with report := none } }).post
          (.levelReached f (s.face f).bright.present) := if_pos ⟨live, due⟩
    rw [reported, if_pos due, if_pos due, State.post_face, State.modFace_face_same]
    exact ⟨rfl, rfl⟩
  · have kept : s.judgeReport f = s := if_neg fun h => due h.2
    rw [kept, if_neg due, if_neg due]
    exact ⟨rfl, rfl⟩

/-! ### The frame that is wanted (R129, R169) -/

theorem wanted_of_stale (live : x.live = true) (line : 0 < x.lineCount)
    (stale : (x.lines.get .n0).current x.record.shown = false) : x.wanted = true := by
  have exists₀ : x.hasLine .n0 = true := decide_eq_true line
  simp only [Face.wanted, live, Bool.true_and]
  exact List.any_eq_true.2 ⟨.n0, Four.mem_all _, by simp [exists₀, stale]⟩

theorem raiseRequests_wanted (h : (s.face f).wanted = true) : (s.raiseRequests.face f).record.request ≠ .none := by
  rw [State.raiseRequests, State.mapFaces_face]
  split
  · exact Request.noConfusion
  · rename_i quiet
    exact fun unasked => quiet ⟨unasked, h⟩

theorem grantNext_request (h : (s.face f).record.request ≠ .none) : (s.grantNext.face f).record.request ≠ .none := by
  unfold State.grantNext
  split
  · rename_i g _ _
    change ((s.modFace g fun x => { x with record := { x.record with request := .granted } }).face f).record.request ≠
      .none
    rw [State.modFace_face]
    split
    · exact Request.noConfusion
    · exact h
  · exact h

/-- A wanted frame is asked for at the end of the event. -/
theorem settle_wanted (h : (s.face f).wanted = true) : (s.settle.face f).record.request ≠ .none := by
  have given : s.settle.faces = s.raiseRequests.grantNext.faces := State.giveTransmitter_frame .faces (by decide)
  rw [State.face_eq, given]
  exact grantNext_request (raiseRequests_wanted h)

/-! ### What the composition of an area reads -/

/-- The blocks that a change of panel state leaves are those of the state before it. -/
theorem eq_of_changesOnly (h : s.changesOnly t panelBlocks) :
    t = { s with faces := t.faces, engine := t.engine, link := t.link, notices := t.notices } := by
  cases t
  simp only [State.mk.injEq]
  exact ⟨h .clock (by decide), h .services (by decide), h .order (by decide), h .freeCells (by decide),
    h .places (by decide), h .glyphs (by decide), h .strikes (by decide), h .scan (by decide), trivial, trivial,
    trivial, h .texts (by decide), h .stamps (by decide), h .approach (by decide), h .curve (by decide),
    h .timing (by decide), h .port (by decide), trivial, h .draws (by decide), h .pending (by decide)⟩

/-- The parts of a face that no composition of its area reads. -/
def unmeasured : List FacePart := [.request, .flags, .clipped, .scrolls, .bright]

theorem face_eq_of_changesOnly (h : x.changesOnly y unmeasured) :
    y = { x with record := { x.record with request := y.record.request }, lines := y.lines, bright := y.bright } := by
  obtain ⟨page, timer⟩ := h .paging (by decide)
  obtain ⟨record, lines, rotation, overrides, yPage, yTimer, warning, panel, bright⟩ := y
  obtain ⟨panelId, roles, speed, depth, callTimes, autoWake, geometry, shown, request⟩ := record
  simp only [Face.mk.injEq, FaceRecord.mk.injEq]
  exact ⟨⟨h .binding (by decide), h .roles (by decide), h .speed (by decide), h .depth (by decide),
    h .callTimes (by decide), h .autoWake (by decide), h .geometry (by decide), h .shown (by decide), trivial⟩, trivial,
    h .rotation (by decide), h .overrides (by decide), page, timer, h .warning (by decide), h .panel (by decide),
    trivial⟩

theorem measureArea_congr (blocks : s.changesOnly t panelBlocks) (parts : x.changesOnly y unmeasured) :
    t.measureArea y j = s.measureArea x j := by
  rw [eq_of_changesOnly blocks, face_eq_of_changesOnly parts]
  rfl

/-! ### READY (R169, R170) -/

section Ready

variable (g : Geometry)

theorem becomeLive_parts : (withAreas s f g).facesChangeOnly (s.becomeLive f g) [.bright] :=
  judgeReport_parts.trans ((post_parts _).mono (by decide))

theorem becomeLive_settle_parts : (withAreas s f g).facesChangeOnly (s.becomeLive f g).settle [.request, .bright] :=
  ((becomeLive_parts g).mono (by decide)).trans (State.settle_parts.mono (by decide))

theorem becomeLive_settle_frame : (waked s f g).changesOnly (s.becomeLive f g).settle panelBlocks := by
  rw [becomeLive_eq]
  exact ((((State.startAreas_frame _).mono (by decide)).trans ((State.judgeReport_frame f).mono (by decide))).trans
    ((State.post_frame _).mono (by decide))).trans (State.settle_frame.mono (by decide))

/-- Every part but the areas and the brightness is that of the face as READY starts it. -/
theorem becomeLive_agrees (p : FacePart) (h : p ∉ [.scrolls, .bright]) :
    (startedFace s (s.face f) g).agrees ((s.becomeLive f g).face f) p := by
  rw [← waked_face]
  exact ((withAreas_parts g).mono (by decide)).trans ((becomeLive_parts g).mono (by decide)) f p h

theorem becomeLive_settle_agrees (p : FacePart) (h : p ∉ [.request, .scrolls, .bright]) :
    (startedFace s (s.face f) g).agrees ((s.becomeLive f g).settle.face f) p :=
  (becomeLive_agrees g p fun m => h (List.mem_cons_of_mem _ m)).trans
    (settle_agrees p fun e => h (e ▸ List.mem_cons_self))

theorem withAreas_bright :
    ((withAreas s f g).face f).bright = { (s.face f).bright with present := 0, ramp := some s.timing.rampStep } := by
  calc
    _ = ((waked s f g).face f).bright := withAreas_parts g f .bright (by decide)
    _ = _ := by rw [waked_face]; rfl

theorem withAreas_live : ((withAreas s f g).face f).live = true := by
  have panel : ((withAreas s f g).face f).panel = ((waked s f g).face f).panel := withAreas_parts g f .panel (by decide)
  rw [Face.live, panel, waked_face]
  rfl

theorem becomeLive_settle_bright :
    ((s.becomeLive f g).settle.face f).bright =
      { (s.face f).bright with
        present := 0, ramp := some s.timing.rampStep
        report := if (s.face f).bright.report = some 0 then none else (s.face f).bright.report } := by
  calc
    _ = (((withAreas s f g).judgeReport f).face f).bright := settle_agrees (s := s.becomeLive f g) .bright (by decide)
    _ = _ := by rw [(judgeReport_live (withAreas_live g)).1, withAreas_bright]

theorem withAreas_notices : (withAreas s f g).notices = s.notices := rfl

theorem becomeLive_settle_notices :
    (s.becomeLive f g).settle.notices =
      postNotice (.faceState f .live .none)
        (if (s.face f).bright.report = some 0 then postNotice (.levelReached f 0) s.notices else s.notices) := by
  calc
    _ = (s.becomeLive f g).notices := State.settle_frame .notices (by decide)
    _ = postNotice (.faceState f .live .none) ((withAreas s f g).judgeReport f).notices := rfl
    _ = _ := by rw [(judgeReport_live (withAreas_live g)).2, withAreas_bright, withAreas_notices]

theorem becomeLive_settle_stale : (s.becomeLive f g).settle.staleLine f j := by
  have flags := becomeLive_settle_agrees (s := s) (f := f) g .flags (by decide) j
  have dark : (startedFace s (s.face f) g).lines.get j = Line.initial := Quad.get_map _ _ _
  refine ⟨(flags .b0).trans ?_, (flags .b1).trans ?_⟩ <;> rw [dark] <;> rfl

theorem becomeLive_settle_scroll :
    (((s.becomeLive f g).settle.face f).lines.get j).scroll.startsWith
      ((8000 + (s.face f).record.speed) / (2 * (s.face f).record.speed))
      ((s.becomeLive f g).settle.measureArea ((s.becomeLive f g).settle.face f) j) := by
  have measured : (s.becomeLive f g).settle.measureArea ((s.becomeLive f g).settle.face f) j =
      (waked s f g).measureArea ((waked s f g).face f) j :=
    measureArea_congr (becomeLive_settle_frame g)
      (((withAreas_parts g).mono (by decide)).trans ((becomeLive_settle_parts g).mono (by decide)) f)
  have scroll : (((s.becomeLive f g).settle.face f).lines.get j).scroll =
      (((withAreas s f g).face f).lines.get j).scroll :=
    becomeLive_settle_parts g f .scrolls (by decide) j
  rw [measured, scroll, withAreas_scroll]
  exact (startsWith_iff _ _ _).2 rfl

theorem becomeLive_settle_rotation :
    ((s.becomeLive f g).settle.face f).rotation.startsOver s.timing.followDwell
      ((s.becomeLive f g).settle.rotationCount ((s.becomeLive f g).settle.face f)) := by
  have rotation : ((s.becomeLive f g).settle.face f).rotation =
      startRotation s.timing.followDwell (s.rotationCount (s.face f)) :=
    becomeLive_settle_agrees g .rotation (by decide)
  have depth : ((s.becomeLive f g).settle.face f).record.depth = (s.face f).record.depth :=
    becomeLive_settle_agrees g .depth (by decide)
  have services : (s.becomeLive f g).settle.services = s.services := becomeLive_settle_frame g .services (by decide)
  have count : (s.becomeLive f g).settle.rotationCount ((s.becomeLive f g).settle.face f) =
      s.rotationCount (s.face f) := by rw [State.rotationCount, depth, services, State.rotationCount]
  rw [rotation, count]
  rfl

theorem becomeLive_settle_request (lines : 1 ≤ g.lines) :
    ((s.becomeLive f g).settle.face f).record.request ≠ .none := by
  have panel : ((s.becomeLive f g).face f).panel = (startedFace s (s.face f) g).panel :=
    becomeLive_agrees g .panel (by decide)
  have geometry : ((s.becomeLive f g).face f).record.geometry = some g := becomeLive_agrees g .geometry (by decide)
  have shown : ((s.becomeLive f g).face f).record.shown = .b0 := becomeLive_agrees g .shown (by decide)
  have dark : (((s.becomeLive f g).face f).lines.get .n0).current .b0 = false :=
    becomeLive_agrees g .flags (by decide) .n0 .b0
  apply settle_wanted
  apply wanted_of_stale
  · rw [Face.live, panel]
    rfl
  · rw [Face.lineCount, geometry]
    exact lines
  · rw [shown, dark]

theorem becomeLive_settle_event :
    s.eventChanges (s.becomeLive f g).settle [.notices] (.geometry :: .shown :: darkParts) :=
  eventChanges_settle ((State.becomeLive_frame f g).mono (by decide))
    (((waked_parts g).trans ((withAreas_parts g).mono (by decide))).trans ((becomeLive_parts g).mono (by decide)))

theorem becomeLive_others : s.othersChangeOnly (s.becomeLive f g) f [] :=
  others_trans (others_trans (waked_others g) (withAreas_others g))
    (others_trans judgeReport_others (others_of_faces (post_parts _)))

end Ready

section Answer

variable {panel width lines : Nat}

theorem readyFor_some (found : s.faceOf panel = some f)
    (size : (s.face f).panel.mode = .waking ∧ (s.face f).panel.step = some .awaitingReady ∧ 80 ≤ width ∧ width ≤ 384 ∧
      1 ≤ lines ∧ lines ≤ 4) : s.readyFor panel width lines = some f := by
  rw [State.readyFor, found]
  exact if_pos size

/-- A READY of no waking face, or with a size out of range, is answered by none. -/
theorem readyFor_none
    (h : ∀ g, s.faceOf panel = some g →
      ¬((s.face g).panel.mode = .waking ∧ (s.face g).panel.step = some .awaitingReady ∧ 80 ≤ width ∧ width ≤ 384 ∧
        1 ≤ lines ∧ lines ≤ 4)) : s.readyFor panel width lines = none := by
  unfold State.readyFor
  split
  · rename_i g found
    exact if_neg (h g found)
  · rfl

theorem ready_taken (h : s.readyFor panel width lines = some f) :
    exec (.ready panel width lines) s = .next (s.becomeLive f ⟨width, lines⟩).settle := by
  rw [exec_ready, execReady, h]

theorem ready_discarded (h : s.readyFor panel width lines = none) : exec (.ready panel width lines) s = .next s := by
  rw [exec_ready, execReady, h]

end Answer

/-- Settles O45: the settle and wake timers, and the face as READY leaves it at the end of the event. -/
theorem theWakeEndsInLiveOrFaulted : Obligations.TheWakeEndsInLiveOrFaulted := by
  intro s f
  refine ⟨fun stopped => by simp [exec_settleTimerExpiry, execSettleTimerExpiry, stopped], settleTimer_running,
    fun stopped => by simp [exec_wakeTimerExpiry, execWakeTimerExpiry, stopped], wakeTimer_running,
    fun panel width lines => ⟨fun found mode step w₁ w₂ l₁ l₂ => ?_,
      fun stray => ready_discarded (readyFor_none stray)⟩⟩
  have bright := becomeLive_settle_bright (s := s) (f := f) ⟨width, lines⟩
  exact ⟨_, ready_taken (readyFor_some found ⟨mode, step, w₁, w₂, l₁, l₂⟩), becomeLive_settle_event _,
    others_settle (becomeLive_others _), becomeLive_settle_agrees _ .panel (by decide),
    becomeLive_settle_agrees _ .geometry (by decide), becomeLive_settle_agrees _ .shown (by decide),
    fun _ => becomeLive_settle_stale _, congrArg Brightness.present bright, congrArg Brightness.ramp bright,
    becomeLive_settle_rotation _, fun _ => becomeLive_settle_scroll _,
    (becomeLive_settle_agrees _ .paging (by decide)).1, becomeLive_settle_request _ l₁,
    becomeLive_settle_notices _, congrArg Brightness.report bright⟩

end Sys2Proof.Machine.LineComposition

/-! The engine's turn: which line it sends, and what it leaves (R139). -/

namespace Sys2Proof.Machine.LineComposition

open Sys2Proof Sys2Proof.Machine

variable {x : Face} {s : State} {f : FaceId} {i j : LineId} {r : Render}

theorem exec_renderTurn : exec .renderTurn s = execRenderTurn s := rfl

/-- Without the transmitter, with a FLIP sent or with a line in flight, there is no turn to use. -/
theorem turnOf_none
    (h : s.link.tx ≠ .engineTurn ∨ ∀ r, s.engine.render = some r → r.phase = .flipping ∨ r.inFlight.isSome = true) :
    s.turnOf = none := by
  unfold State.turnOf
  split
  · rename_i r given held
    rcases (h.resolve_left fun n => n given) r held with flipping | flying
    · exact if_neg fun turn => by simp [flipping] at turn
    · exact if_neg fun turn => by simp [turn.2] at flying
  · rfl

theorem turnOf_some (given : s.link.tx = .engineTurn) (held : s.engine.render = some r) (walking : r.phase = .walking)
    (idle : r.inFlight = none) : s.turnOf = some r := by
  rw [State.turnOf, given, held]
  exact if_pos ⟨walking, idle⟩

/-- The search of R139 finds a line when it is wanted and no wanted line stands before it. -/
theorem find_four {p : Four → Bool} (found : p j = true) (before : ∀ i, i.toNat < j.toNat → p i = false) :
    Four.all.find? p = some j := by
  cases j
  case n0 => simp [Four.all, found]
  case n1 => simp [Four.all, found, before .n0 (by decide)]
  case n2 => simp [Four.all, found, before .n0 (by decide), before .n1 (by decide)]
  case n3 => simp [Four.all, found, before .n0 (by decide), before .n1 (by decide), before .n2 (by decide)]

theorem nextLine_eq (from_walk : r.walk ≤ j.toNat) (line : x.hasLine j = true)
    (stale : (x.lines.get j).current r.hidden = false)
    (before : ∀ i : LineId, r.walk ≤ i.toNat → i.toNat < j.toNat → (x.lines.get i).current r.hidden = true) :
    x.nextLine r = some j := by
  refine find_four (by simp [from_walk, line, stale]) fun i lt => ?_
  by_cases walked : r.walk ≤ i.toNat
  · simp [before i walked lt]
  · simp [walked]

/-- The line with the clipped mark of its composition. -/
def clippedAs (s : State) (f : FaceId) (j : LineId) (clipped : Bool) : State :=
  s.modLine f j fun l => { l with clipped := clipped }

theorem clippedAs_parts (c : Bool) : s.facesChangeOnly (clippedAs s f j c) [.clipped] :=
  State.modFace_parts (setLine_parts _ (.inr fun b => by cases b <;> rfl) (.inl (by decide)) (.inr rfl))

theorem sendLine_eq :
    s.sendLine r j =
      ((clippedAs s r.face j (s.composeLine (s.face r.face) j).2).setRender
        { r with walk := j.toNat + 1, inFlight := some j, sent := r.sent.set j true }).setTransmitter
          (.sending (.line (s.face r.face).record.panelId r.hidden j (s.lineImage (s.face r.face) j))
            (some .engine)) := rfl

theorem sendLine_face :
    (s.sendLine r j).face f = (clippedAs s r.face j (s.composeLine (s.face r.face) j).2).face f := rfl

theorem sendLine_parts : s.facesChangeOnly (s.sendLine r j) [.clipped] := fun f => by
  rw [sendLine_face]
  exact clippedAs_parts _ f

theorem sendLine_others : s.othersChangeOnly (s.sendLine r j) r.face [] := fun f other => by
  rw [sendLine_face]
  exact modLine_others _ f other

theorem sendLine_clipped :
    (((s.sendLine r j).face r.face).lines.get j).clipped = (s.composeLine (s.face r.face) j).2 := by
  rw [sendLine_face, clippedAs, modLine_line]

theorem sendLine_line_other (other : i ≠ j) :
    ((s.sendLine r j).face r.face).lines.get i = (s.face r.face).lines.get i := by
  rw [sendLine_face]
  exact modLine_line_other _ other

theorem sendLine_frame : s.changesOnly (s.sendLine r j) [.faces, .engine, .link] := by
  rw [sendLine_eq]
  exact (((s.modLine_frame _ _ _).mono (by decide)).trans ((State.setRender_frame _).mono (by decide))).trans
    ((State.setTransmitter_frame _).mono (by decide))

/-- A line image has 16 rows of the line's width (R96). -/
theorem drawImage_size (gs : List UserGlyph) (wl : Nat) (ps : List Placed) :
    (drawImage gs wl ps).length = 16 ∧ ∀ row ∈ drawImage gs wl ps, row.length = wl := by
  refine ⟨by simp [drawImage], fun row mem => ?_⟩
  obtain ⟨k, -, rfl⟩ := List.mem_map.1 mem
  simp

theorem turn_used (given : s.link.tx = .engineTurn) (held : s.engine.render = some r) (walking : r.phase = .walking)
    (idle : r.inFlight = none) (from_walk : r.walk ≤ j.toNat) (line : (s.face r.face).hasLine j = true)
    (stale : ((s.face r.face).lines.get j).current r.hidden = false)
    (before : ∀ i : LineId, r.walk ≤ i.toNat → i.toNat < j.toNat →
      ((s.face r.face).lines.get i).current r.hidden = true) :
    ∃ t img, exec .renderTurn s = .next t ∧ s.changesOnly t [.faces, .engine, .link] ∧ s.facesChangeOnly t [.clipped] ∧
      s.othersChangeOnly t r.face [] ∧ img = s.lineImage (s.face r.face) j ∧ img.length = 16 ∧
      (∀ row ∈ img, row.length = (s.face r.face).width) ∧
      t.link = { s.link with
        tx := .sending (.line (s.face r.face).record.panelId r.hidden j img) (some .engine) } ∧
      t.engine = { s.engine with
        render := some { r with walk := j.toNat + 1, inFlight := some j, sent := r.sent.set j true } } ∧
      ((t.face r.face).lines.get j).clipped = (s.composeLine (s.face r.face) j).2 ∧
      ∀ i, i ≠ j → (t.face r.face).lines.get i = (s.face r.face).lines.get i := by
  have run : exec .renderTurn s = .next (s.sendLine r j) := by
    rw [exec_renderTurn, execRenderTurn, turnOf_some given held walking idle]
    simp only [State.useTurn, nextLine_eq from_walk line stale before]
  obtain ⟨rows, columns⟩ := drawImage_size s.glyphs (s.face r.face).width (s.composeLine (s.face r.face) j).1
  exact ⟨_, _, run, sendLine_frame, sendLine_parts, sendLine_others, rfl, rows, columns, rfl, rfl, sendLine_clipped,
    fun _ other => sendLine_line_other other⟩

end Sys2Proof.Machine.LineComposition

/-! The texts of a line (R74 to R93, R114 to R117). -/

namespace Sys2Proof.Machine.LineComposition

open Sys2Proof Sys2Proof.Machine

variable {x : Face} {s : State} {j : LineId} {v : Service}

/-! ### Overrides (R114, R117) -/

theorem lineContent_override {src : Source} (h : x.currentOverride = some src) :
    s.lineContent x j = s.overrideContent x src j := by rw [State.lineContent, h]

theorem lineContent_role {role : Role} (h : x.currentOverride = none) (hr : x.record.roles.get j = role) :
    s.lineContent x j = s.roleContent x role := by rw [State.lineContent, h, hr]

theorem pagesOf_override {src : Source} (h : x.currentOverride = some src) :
    s.pagesOf x = pageCount (wrapText s.glyphs x.width (s.texts.get src)).length x.lineCount := by
  rw [State.pagesOf, h]

/-- The line of the page shown; a page index at or beyond the page count shows page 0. -/
theorem overrideContent_eq {src : Source} (h : x.currentOverride = some src) :
    s.overrideContent x src j =
      match (wrapText s.glyphs x.width (s.texts.get src))[
        (if x.page < s.pagesOf x then x.page else 0) * x.lineCount + j.toNat]? with
      | some t => .centred t
      | none => .empty := by
  rw [pagesOf_override h]
  rfl

theorem pageCount_covers {m l : Nat} (text : 0 < m) (lines : 0 < l) :
    m ≤ pageCount m l * l ∧ (pageCount m l - 1) * l < m := by
  have count : pageCount m l = (m - 1) / l + 1 := by
    rw [pageCount, if_neg (by omega), show m + l - 1 = m - 1 + l by omega, Nat.add_div_right _ lines]
  have low : (m - 1) / l * l ≤ m - 1 := Nat.div_mul_le_self _ _
  have high : m - 1 < ((m - 1) / l + 1) * l := Nat.lt_mul_of_div_lt (Nat.lt_succ_self _) lines
  rw [count, Nat.add_sub_cancel]
  omega

/-! ### The rotation's position (R75, R87, R88) -/

theorem followPosition_none (h : x.record.depth = 0 ∨ s.services.length ≤ 1) : s.followPosition x = none := by
  rw [State.followPosition, State.rotationCount]
  exact if_pos (by omega)

theorem followPosition_some (depth : 0 < x.record.depth) (more : 1 < s.services.length) :
    s.followPosition x = some (2 + x.rotation.index) := by
  rw [State.followPosition, State.rotationCount]
  exact if_neg (by omega)

/-- The ordinals of the six positions a rotation can have. -/
theorem ordinals_eq :
    (["2nd", "3rd", "4th", "5th", "6th", "7th"].map codes) = (List.range 6).map fun i => ordinalText (2 + i) := by
  decide

theorem ordinalText_eq {i : Nat} {ordinal : String}
    (h : ["2nd", "3rd", "4th", "5th", "6th", "7th"][i]? = some ordinal) : ordinalText (2 + i) = codes ordinal := by
  have bound : i < 6 := (List.getElem?_eq_some_iff.1 h).1
  have at_i := congrArg (fun l => l[i]?) ordinals_eq
  simp only [List.getElem?_map, h, List.getElem?_range bound, Option.map_some, Option.some.injEq] at at_i
  exact at_i.symm

theorem shownService_follow_none (h : x.record.depth = 0 ∨ s.services.length ≤ 1) :
    s.shownService x .follow = none := by
  rw [State.shownService, followPosition_none h]
  rfl

theorem shownService_follow (depth : 0 < x.record.depth) (more : 1 < s.services.length) :
    s.shownService x .follow = s.serviceAt (2 + x.rotation.index) := by
  rw [State.shownService, followPosition_some depth more]
  rfl

/-! ### The role lines (R78 to R80, R86, R87, R92) -/

theorem headContent_none (h : s.serviceAt 1 = none) :
    s.headContent = .centred (codes "No services from this platform") := by
  rw [State.headContent, State.nextService, h]

theorem headContent_some (h : s.serviceAt 1 = some v) : s.headContent = s.fieldedContent (timeText v.sched) v := by
  rw [State.headContent, State.nextService, h]

theorem callsContent_none {times : Bool} (h : s.serviceAt 1 = none) : s.callsContent times = .empty := by
  rw [State.callsContent, State.nextService, h]

theorem callsContent_cancelled {times : Bool} (h : s.serviceAt 1 = some v) (cancelled : v.state = .cancelled) :
    s.callsContent times = .scrolling (v.reason.getD (codes "This service has been cancelled.")) := by
  simp only [State.callsContent, State.nextService, h, cancelled]

/-- What follows the calling text: two spaces and the reason, where there is one (R86). -/
def reasonText : Option Text → Text
  | some r => codes "  " ++ r
  | none => []

/-- What a CALLS line shows of a service that is not cancelled. -/
theorem callsContent_running {times : Bool} (h : s.serviceAt 1 = some v) (running : v.state ≠ .cancelled) :
    (v.active = none → s.callsContent times = .empty) ∧
      ∀ es, v.active = some es →
        s.callsContent times = .scrolling (s.callingText times v es ++ reasonText v.reason) := by
  cases state : v.state with
  | cancelled => exact absurd state running
  | onTime | delayed | expected =>
    refine ⟨fun absent => ?_, fun es present => ?_⟩
    · simp only [State.callsContent, State.nextService, h, state, absent]
    · simp only [State.callsContent, State.nextService, h, state, present]
      cases v.reason <;> rfl

theorem followContent_none (h : x.record.depth = 0 ∨ s.services.length ≤ 1) : s.followContent x = .empty := by
  rw [State.followContent, followPosition_none h]

theorem followContent_some {ordinal : String} (depth : 0 < x.record.depth) (more : 1 < s.services.length)
    (h : s.serviceAt (2 + x.rotation.index) = some v)
    (ho : ["2nd", "3rd", "4th", "5th", "6th", "7th"][x.rotation.index]? = some ordinal) :
    s.followContent x = s.fieldedContent (codes ordinal ++ [32] ++ timeText v.sched) v := by
  simp only [State.followContent, followPosition_some depth more, h, ordinalText_eq ho]

theorem noticeText_eq :
    s.noticeText x = if x.holds .stationNotice ∧ s.texts.notice ≠ [] then some s.texts.notice else none := by
  by_cases held : x.holds .stationNotice = true
  · by_cases text : s.texts.notice = []
    · rw [noticeText_none (.inr text), if_neg fun h => h.2 text]
    · rw [noticeText_some held text, if_pos ⟨held, text⟩]
  · rw [noticeText_none (.inl (Bool.not_eq_true _ ▸ held)), if_neg fun h => held h.1]

theorem noticeContent_eq :
    s.noticeContent x =
      if s.noticeText x = none ∧ s.clockField = none then .empty else .split (s.noticeText x) s.clockField := by
  unfold State.noticeContent
  cases s.noticeText x <;> cases s.clockField <;> rfl

/-! ### Places and times (R76, R77) -/

theorem destinationText_whole {name : Nat → Text} (h : v.rear = none) : destinationText name v = name v.front.dest := by
  rw [destinationText, h]

theorem destinationText_divided {name : Nat → Text} {r : Portion} (h : v.rear = some r) :
    destinationText name v = name v.front.dest ++ codes " & " ++ name r.dest := by
  rw [destinationText, h]

theorem names_of_place {p : PlaceEntry} {id : Nat} (h : s.placeOf id = some p) :
    s.fullName id = p.full ∧ s.shortName id = p.short.getD p.full := by
  simp only [State.fullName, State.shortName, h, and_self]

theorem twoDigits_eq {n : Nat} (h : n < 100) : twoDigits n = [48 + n / 10, 48 + n % 10] := by
  rw [twoDigits, Nat.mod_eq_of_lt (by omega)]

theorem timeText_eq {h m : Nat} (minutes : m < 60) :
    timeText (h * 60 + m) = twoDigits h ++ [58] ++ twoDigits m := by
  rw [timeText, show (h * 60 + m) / 60 = h by omega, show (h * 60 + m) % 60 = m by omega]

theorem timeText_digits {h m : Nat} (hours : h < 24) (minutes : m < 60) :
    timeText (h * 60 + m) = [48 + h / 10, 48 + h % 10, 58, 48 + m / 10, 48 + m % 10] := by
  rw [timeText_eq minutes, twoDigits_eq (by omega), twoDigits_eq (by omega)]
  rfl

theorem clockText_eq {c : Clock} (range : c.InRange) :
    clockText c = timeText (c.hours * 60 + c.minutes) ++ [58, 48 + c.seconds / 10, 48 + c.seconds % 10] := by
  obtain ⟨hours, minutes, seconds, -⟩ := range
  rw [timeText_eq (by omega), clockText, twoDigits_eq (n := c.seconds) (by omega)]
  simp

/-! ### The status (R8) -/

theorem statusText_cancelled {pmc : Nat} (h : v.state = .cancelled) : statusText pmc v = codes "Cancelled" := by
  simp only [statusText, Service.status, h]

theorem statusText_delayed {pmc : Nat} (h : v.state = .delayed) : statusText pmc v = codes "Delayed" := by
  simp only [statusText, Service.status, h]

theorem statusText_onTime {pmc : Nat} (h : v.state = .onTime) :
    statusText pmc v = if v.schedAbs ≤ pmc then codes "Due" else codes "On time" := by
  by_cases due : v.schedAbs ≤ pmc <;> simp [statusText, Service.status, Service.due, Service.effAbs, h, due]

theorem statusText_expected {pmc m : Nat} {abs : Int} (h : v.state = .expected m abs) :
    statusText pmc v =
      if abs ≤ pmc then codes "Due" else if m = v.sched then codes "On time" else codes "Exp " ++ timeText m := by
  by_cases due : abs ≤ pmc
  · simp [statusText, Service.status, Service.due, Service.effAbs, h, due]
  · by_cases same : m = v.sched <;> simp [statusText, Service.status, Service.due, Service.effAbs, h, due, same]

/-! ### Names joined, and the calling text (R81 to R85) -/

theorem joinNames_two (names : List Text) (y z : Text) :
    joinNames (names ++ [y, z]) = (names.map fun n => n ++ codes ", ").flatten ++ y ++ codes " and " ++ z := by
  induction names with
  | nil => rfl
  | cons n names ih =>
    have split : joinNames (n :: (names ++ [y, z])) = n ++ codes ", " ++ joinNames (names ++ [y, z]) := by
      cases names with
      | nil => rfl
      | cons m rest =>
        cases rest <;> rfl
    rw [List.cons_append, split, ih]
    simp

theorem entryName_plain {times : Bool} {e : Entry} (h : times = false ∨ e.time = none) :
    s.entryName times e = s.fullName e.place := by
  rcases h with rfl | h
  · rfl
  · cases times <;> simp only [State.entryName, h]

theorem entryName_timed {times : Bool} {e : Entry} {m : Nat} (option : times = true) (h : e.time = some m) :
    s.entryName times e = s.fullName e.place ++ codes " (" ++ timeText m ++ codes ")" := by
  simp only [State.entryName, option, h]

theorem callingText_whole {times : Bool} {es : List Entry} (h : v.rear = none) :
    s.callingText times v es =
      if visibleEntries es = [] then codes "Non-stop to " ++ s.fullName v.front.dest ++ codes "."
      else
        codes "Calling at " ++ joinNames ((visibleEntries es).map (s.entryName times) ++ [s.fullName v.front.dest]) ++
          codes "." := by
  simp only [State.callingText, h]
  cases visibleEntries es <;> rfl

/-- The shared run ends where an entry of one portion alone stands. -/
theorem sharedRun_split {run rest : List Entry} (shared : ∀ e ∈ run, e.mask = .both)
    (ends : ∀ e, rest.head? = some e → e.mask ≠ .both) :
    sharedRun (run ++ rest) = run ∧ afterShared (run ++ rest) = rest := by
  have all : ∀ e ∈ run, (e.mask == .both) = true := fun e mem => beq_iff_eq.2 (shared e mem)
  rw [sharedRun, afterShared, List.takeWhile_append_of_pos all, List.dropWhile_append_of_pos all]
  cases rest with
  | nil => simp
  | cons e rest => simp [ends e rfl]

theorem tail_filters (rest : List Entry) :
    (rest.filter fun e => e.mask == .both || e.mask == .first) = (rest.filter fun e => e.mask ≠ .second) ∧
      (rest.filter fun e => e.mask == .both || e.mask == .second) = rest.filter fun e => e.mask ≠ .first :=
  ⟨List.filter_congr fun e _ => by cases e.mask <;> rfl, List.filter_congr fun e _ => by cases e.mask <;> rfl⟩

theorem callingText_divided {times : Bool} {es run rest : List Entry} {r : Portion} (h : v.rear = some r)
    (seen : visibleEntries es = run ++ rest) (shared : ∀ e ∈ run, e.mask = .both)
    (ends : ∀ e, rest.head? = some e → e.mask ≠ .both) :
    s.callingText times v es =
      (if run = [] then [] else codes "Calling at " ++ joinNames (run.map (s.entryName times)) ++ codes ". ") ++
        s.portionPhrase times (codes "Front") v.front (rest.filter fun e => e.mask ≠ .second) ++ codes " " ++
        s.portionPhrase times (codes "Rear") r (rest.filter fun e => e.mask ≠ .first) := by
  obtain ⟨run_eq, rest_eq⟩ := sharedRun_split shared ends
  obtain ⟨front, rear⟩ := tail_filters rest
  simp only [State.callingText, h, seen, run_eq, rest_eq, front, rear]
  cases run <;> rfl

/-- The count of coaches in decimal digits. -/
theorem countText_eq {n : Nat} (h : n ≤ 16) : countText n = codes (toString n) := by
  revert n
  decide

theorem portionLead_eq {which size : Text} {coaches : Option Nat} (absent : coaches = none → size = codes " portion")
    (one : coaches = some 1 → size = codes " 1 coach")
    (more : ∀ n, coaches = some n → 2 ≤ n ∧ n ≤ 16 → size = codes " " ++ codes (toString n) ++ codes " coaches")
    (range : ∀ n, coaches = some n → 1 ≤ n ∧ n ≤ 16) : portionLead which coaches = which ++ size := by
  cases coaches with
  | none => rw [absent rfl, portionLead]
  | some n =>
    obtain ⟨low, high⟩ := range n rfl
    by_cases single : n = 1
    · subst single
      rw [one rfl, portionLead, if_pos rfl, List.append_assoc, List.append_assoc]
      rfl
    · rw [more n rfl ⟨by omega, high⟩, portionLead, countText_eq high, if_neg single]
      simp

theorem portionPhrase_eq {times : Bool} {which : Text} {p : Portion} {tail : List Entry} :
    s.portionPhrase times which p tail =
      portionLead which p.coaches ++ codes " for " ++ s.fullName p.dest ++
        if tail = [] then codes ", non-stop."
        else codes ", calling at " ++ joinNames (tail.map (s.entryName times) ++ [s.fullName p.dest]) ++ codes "." := by
  unfold State.portionPhrase
  cases tail <;> rfl

/-! ### The statement -/

/-- What a line holds under a board override (R114, R117). -/
theorem lineContent_overridden {src : Source} (h : x.currentOverride = some src) {page : Nat}
    (hp : page = if x.page < s.pagesOf x then x.page else 0) :
    (∀ t, (wrapText s.glyphs x.width (s.texts.get src))[page * x.lineCount + j.toNat]? = some t →
        s.lineContent x j = .centred t) ∧
      ((wrapText s.glyphs x.width (s.texts.get src))[page * x.lineCount + j.toNat]? = none →
        s.lineContent x j = .empty) := by
  rw [lineContent_override h, overrideContent_eq h, ← hp]
  exact ⟨fun t found => by rw [found], fun absent => by rw [absent]⟩

theorem pagesOf_covers {src : Source} (h : x.currentOverride = some src) {m : Nat}
    (hm : m = (wrapText s.glyphs x.width (s.texts.get src)).length) :
    (m = 0 → s.pagesOf x = 1) ∧
      (0 < m → 0 < x.lineCount → m ≤ s.pagesOf x * x.lineCount ∧ (s.pagesOf x - 1) * x.lineCount < m) := by
  rw [pagesOf_override h, ← hm]
  exact ⟨fun empty => if_pos empty, pageCount_covers⟩

/-- Settles O26: the turn itself, then what a line holds role by role, then the texts it is made of. -/
theorem theTurnSendsTheNextLine : Obligations.TheTurnSendsTheNextLine := by
  refine ⟨fun s => ⟨fun unused => ?_, fun r j => turn_used⟩, ?_, ?_, fun s p => names_of_place,
    fun h m => timeText_digits, fun c => clockText_eq, fun pmc v => ?_, fun names y z => ⟨rfl, joinNames_two names y z⟩,
    fun s times e => ⟨entryName_plain, fun m => entryName_timed⟩, ?_, ?_⟩
  · rw [exec_renderTurn, execRenderTurn, turnOf_none unused]
  · rintro s x j dest reason rfl rfl
    refine ⟨rfl, rfl, fun src page h hp => lineContent_overridden h hp, fun src m h hm => pagesOf_covers h hm, rfl, rfl,
      shownService_follow_none, shownService_follow, rfl, rfl,
      fun plain => ⟨fun role => ?_, fun role => ?_, fun role => ?_, fun role => ?_, fun role => ?_⟩⟩
      <;> rw [lineContent_role plain role]
    · exact ⟨headContent_none, fun v => headContent_some⟩
    · refine ⟨callsContent_none, fun v found => ⟨callsContent_cancelled found, fun running => ?_⟩⟩
      obtain ⟨absent, present⟩ := callsContent_running (times := x.record.callTimes) found running
      refine ⟨absent, fun es active => (present es active).trans ?_⟩
      dsimp only
      cases v.reason <;> rfl
    · exact ⟨followContent_none, fun depth more v ordinal => followContent_some depth more⟩
    · rintro notice clock rfl rfl
      rw [State.roleContent, noticeContent_eq, noticeText_eq, State.clockField]
    · rfl
  · exact fun name v => ⟨destinationText_whole, fun r => destinationText_divided⟩
  · exact ⟨statusText_cancelled, statusText_delayed, statusText_onTime, fun m abs => statusText_expected⟩
  · rintro s times v es seen rfl
    exact ⟨callingText_whole, fun r run rest => callingText_divided⟩
  · intro s times which p tail size absent one more range
    rw [portionPhrase_eq, portionLead_eq absent one more range, List.append_assoc which]

end Sys2Proof.Machine.LineComposition
